-- ==== Sys2Proof/Word.lean ====
section
/-! DEFINITION. The widths PGCORE gives its data (00_scope.md R10, R12; 10_state.md R20): every value is an unsigned bit vector. -/

namespace Sys2Proof

/-- One byte of the random stream (20_memory.md R55). -/
abbrev Byte := BitVec 8

/-- One LUT entry, one OUT record: TOKEN_W = 32 bits (00_scope.md R10). -/
abbrev Token := BitVec 32

/-- A run's target: TARGET_W = 32 bits (00_scope.md R10). -/
abbrev Target := BitVec 32

/-- A WORD-mode symbol, which is a LUT index: WORD_W = 18 bits (20_memory.md R51). -/
abbrev WordSymbol := BitVec 18

/-- A DIGIT-mode symbol: DIGIT_W = 4 bits (41_domain_mapper.md R124). -/
abbrev DigitSymbol := BitVec 4

/-- One 64-bit command word (30_encoding.md R70) or one 64-bit register read (10_state.md R37). -/
abbrev Word64 := BitVec 64

/-- An 8-bit read-port address (30_encoding.md R82). -/
abbrev ReadAddr := BitVec 8

end Sys2Proof
end

