-- ==== Sys2Proof/Syntax.lean ====
section
/-! DEFINITION. The two modes and the instructions of PGCORE: one constructor per row of spec/opcode_table.json. -/

namespace Sys2Proof

/-- The two modes of 00_scope.md R3; as a bit, WORD is 0 and DIGIT is 1 (10_state.md R25). -/
inductive Mode where
  | word
  | digit
  deriving DecidableEq, Repr

/-- What the HOST can ask of PGCORE (00_scope.md R4 (i) and (ii)): the five commands and the register read. -/
inductive Instr where
  /-- NOP (44_control_and_report.md R190). -/
  | nop
  /-- CFG (R192): mode = cmd[4], verbose = cmd[5], useDefault = cmd[6], target = cmd[63:32] (30_encoding.md R73). -/
  | cfg (mode : Mode) (verbose : Bool) (useDefault : Bool) (target : Target)
  /-- LUT_CLEAR (42_domain_load.md R140). -/
  | lutClear
  /-- LUT_PUSH (R143): token = cmd[63:32] (30_encoding.md R74). -/
  | lutPush (token : Token)
  /-- START (43_accumulator.md R160). -/
  | start
  /-- READ (44_control_and_report.md R196): an address on the read port, no command word (30_encoding.md R82). -/
  | read (addr : ReadAddr)
  deriving DecidableEq, Repr

/-- What the HOST puts on one of PGCORE's two ports: a command word (30_encoding.md R70) or a read address (R82). -/
inductive PortAccess where
  | command (w : Word64)
  | readAddress (a : ReadAddr)
  deriving DecidableEq, Repr

end Sys2Proof
end

