-- ==== Sys2Proof/Config.lean ====
section
/-! DEFINITION. The parameters of 00_scope.md R10 as configuration constants, and the one free value of the model: what the random source answers (00_scope.md R6; 93_implementation_defined.md I3, I4, I5). -/

namespace Sys2Proof

/-- The RNG's answer to one refill request (00_scope.md R6): `full`, exactly NB = 8 bytes in stream order, or `short`,
fewer bytes than requested. The bytes of a short answer are discarded (20_memory.md R55), so it carries none. -/
inductive RngAnswer where
  | full (b0 b1 b2 b3 b4 b5 b6 b7 : Byte)
  | short
  deriving DecidableEq, Repr

namespace Config

/-- W, the width of BUF in bits. -/
@[simp] abbrev regWidth : Nat := 64

/-- NB = W/8, the bytes of one refill. -/
@[simp] abbrev refillBytes : Nat := 8

/-- WORD_W, the WORD-mode symbol width. -/
@[simp] abbrev wordWidth : Nat := 18

/-- WORD_N = 2^WORD_W, the number of LUT entries. -/
@[simp] abbrev wordCount : Nat := 262144

/-- DIGIT_W, the DIGIT-mode symbol width. -/
@[simp] abbrev digitWidth : Nat := 4

/-- DIGIT_MAX, the largest accepted DIGIT-mode symbol. -/
@[simp] abbrev digitMax : Nat := 9

/-- DEF_BITS, the default WORD-mode target. -/
@[simp] abbrev defaultBits : Target := 64#32

/-- DEF_DIGITS, the default DIGIT-mode target. -/
@[simp] abbrev defaultDigits : Target := 8#32

/-- TOKEN_W, the width of one LUT entry. -/
@[simp] abbrev tokenWidth : Nat := 32

/-- TARGET_W, the width of the target register. -/
@[simp] abbrev targetWidth : Nat := 32

/-- The command-set version, PARAMS[55:48] (10_state.md R40). -/
@[simp] abbrev commandSetVersion : Nat := 1

/-- FREE VALUE (log 5). What the random source answers to its n-th free draw: any eight bytes, `short`, or no answer at
all (`none`, 93_implementation_defined.md I5). It has no body, so nothing can be proved of its values. -/
opaque freeRngAnswer : Nat → Option RngAnswer

end Config

end Sys2Proof
end

