-- ==== Sys2Proof/WellFormed.lean ====
section
/-! DEFINITION. Which command words are well formed, by the match and mask rows of 30_encoding.md R76, and which
instructions are: all of them, since the full range of every operand is legal (R75, R82). -/

namespace Sys2Proof

/-- One row of the table of 30_encoding.md R76. -/
structure OpcodeRow where
  mnemonic : String
  pattern  : Word64
  mask     : Word64
  deriving DecidableEq, Repr

/-- `(cmd & mask) = match` (30_encoding.md R76). -/
def OpcodeRow.matchesWord (r : OpcodeRow) (w : Word64) : Bool :=
  w &&& r.mask == r.pattern

/-- The rows of 30_encoding.md R76, the five command rows of spec/opcode_table.json. -/
def opcodeRows : List OpcodeRow :=
  [ ⟨"NOP",       0x0000000000000000#64, 0xFFFFFFFFFFFFFFFF#64⟩,
    ⟨"CFG",       0x0000000000000001#64, 0x00000000FFFFFF8F#64⟩,
    ⟨"LUT_CLEAR", 0x0000000000000002#64, 0xFFFFFFFFFFFFFFFF#64⟩,
    ⟨"LUT_PUSH",  0x0000000000000003#64, 0x00000000FFFFFFFF#64⟩,
    ⟨"START",     0x0000000000000004#64, 0xFFFFFFFFFFFFFFFF#64⟩ ]

/-- "A command word is well formed exactly when it matches one row of the table" (30_encoding.md R76). -/
def wellFormedWord (w : Word64) : Bool :=
  opcodeRows.any (fun r => r.matchesWord w)

/-- What the HOST puts on a port is well formed: a command word by R76; every read address is legal (R82). -/
def PortAccess.wellFormed : PortAccess → Bool
  | .command w     => wellFormedWord w
  | .readAddress _ => true

/-- Every instruction is well formed (log 23): any 32-bit target and token is legal (30_encoding.md R75), every mode and
flag value is (10_state.md R39), and every read address is (30_encoding.md R82). -/
def Instr.wellFormed : Instr → Bool
  | .nop         => true
  | .cfg _ _ _ _ => true
  | .lutClear    => true
  | .lutPush _   => true
  | .start       => true
  | .read _      => true

end Sys2Proof
end

