-- ==== Sys2Proof/Decode.lean ====
section
/-! DEFINITION. The decoder of 30_encoding.md R77, total on all 2^64 command words and rejecting by name, the read port's
(R82), and the encoder of R71 and R73. -/

namespace Sys2Proof

/-- Why a command word is ILLEGAL (30_encoding.md R79). -/
inductive DecodeReject where
  /-- OP is 0x5 to 0xF (R72, R79). -/
  | reservedOpcode (op : BitVec 4)
  /-- A bit that must be zero for this opcode is set (R71, R79). -/
  | nonzeroReservedBits (op : BitVec 4)
  deriving DecidableEq, Repr

/-- OP = cmd[3:0] (30_encoding.md R71). -/
def opField (w : Word64) : BitVec 4 := w.extractLsb' 0 4

/-- IMM = cmd[63:32] (30_encoding.md R71): the CFG target, the LUT_PUSH token. -/
def immField (w : Word64) : BitVec 32 := w.extractLsb' 32 32

/-- The mode a mode bit names: 0 WORD, 1 DIGIT (30_encoding.md R73). -/
def Mode.ofBit (b : Bool) : Mode := if b then .digit else .word

/-- The mode's bit: WORD 0, DIGIT 1 (10_state.md R25). -/
def Mode.bit : Mode → Bool
  | .word  => false
  | .digit => true

/-- decode (30_encoding.md R77). -/
def decodeCommand (w : Word64) : Except DecodeReject Instr :=
  match (opField w).toNat with
  | 0 => if w.extractLsb' 4 60 = 0#60 then .ok .nop else .error (.nonzeroReservedBits (opField w))
  | 1 => if w.extractLsb' 7 25 = 0#25
         then .ok (.cfg (Mode.ofBit (w.getLsbD 4)) (w.getLsbD 5) (w.getLsbD 6) (immField w))
         else .error (.nonzeroReservedBits (opField w))
  | 2 => if w.extractLsb' 4 60 = 0#60 then .ok .lutClear else .error (.nonzeroReservedBits (opField w))
  | 3 => if w.extractLsb' 4 28 = 0#28 then .ok (.lutPush (immField w)) else .error (.nonzeroReservedBits (opField w))
  | 4 => if w.extractLsb' 4 60 = 0#60 then .ok .start else .error (.nonzeroReservedBits (opField w))
  | _ => .error (.reservedOpcode (opField w))

/-- What an access to either port decodes to: a command word by R77; every read address is a READ (30_encoding.md R82). -/
def decode : PortAccess → Except DecodeReject Instr
  | .command w     => decodeCommand w
  | .readAddress a => .ok (.read a)

/-- The command word with these fields (30_encoding.md R71): IMM, zeros in [31:7], then D, V, M and OP. -/
def commandWord (imm : BitVec 32) (d v m : Bool) (op : BitVec 4) : Word64 :=
  imm ++ 0#25 ++ BitVec.ofBool d ++ BitVec.ofBool v ++ BitVec.ofBool m ++ op

/-- The port access that issues an instruction (30_encoding.md R71, R72, R73, R82). -/
def encode : Instr → PortAccess
  | .nop         => .command (commandWord 0#32 false false false 0x0#4)
  | .cfg m v d t => .command (commandWord t d v m.bit 0x1#4)
  | .lutClear    => .command (commandWord 0#32 false false false 0x2#4)
  | .lutPush t   => .command (commandWord t false false false 0x3#4)
  | .start       => .command (commandWord 0#32 false false false 0x4#4)
  | .read a      => .readAddress a

/-- The port access of an opcode-table row of `nbits` bits holding `w`: the one row of 8 bits is READ, whose bits are the
read-port address and no command word (spec/opcode_table.json); every other row is one 64-bit command word. -/
def tableAccess (nbits w : Nat) : PortAccess :=
  if nbits = 8 then .readAddress (BitVec.ofNat 8 w) else .command (BitVec.ofNat 64 w)

/-- What the decoder reads from a table word; a word longer than a command has no decoding (30_encoding.md R81). -/
def decodeTableWord (nbits w : Nat) : Option Instr :=
  if 64 < nbits then none
  else
    match decode (tableAccess nbits w) with
    | .ok i    => some i
    | .error _ => none

end Sys2Proof
end

