-- ==== Sys2Proof/Machine/State.lean ====
section
/-! DEFINITION. The state of PGCORE (10_state.md R20), the inputs it is driven by, its state after reset (R43), and the
reasons a step can stop. -/

namespace Sys2Proof.Machine

/-- STATE, the accumulator's state (10_state.md R24): IDLE 0, COLLECTING 1, DONE 2, ERROR 3. -/
inductive RunState where
  | idle
  | collecting
  | done
  | error
  deriving DecidableEq, Repr

/-- The one memory of PGCORE, the domain LUT (10_state.md R33): (index, token) cells, one per entry that holds a value, in the canonical form
`Memory.wf`. An index with no cell has no value (20_memory.md R53). -/
abbrev Memory := List (Nat × Token)

/-- The canonical form of the LUT: indices strictly rising, each below WORD_N. -/
abbrev Memory.wf (l : Memory) : Prop :=
  List.Pairwise (fun a b => a.1 < b.1) l ∧ ∀ c ∈ l, c.1 < Config.wordCount

/-- One action of the total order of 20_memory.md R61 (log 2). -/
inductive Turn where
  /-- The HOST writes the command port (30_encoding.md R70) or presents a read address (R82). -/
  | host (p : PortAccess)
  /-- The CORE has the turn: one STEP if one is enabled (43_accumulator.md R166). -/
  | core
  /-- The RNG delivers an answer (43_accumulator.md R171). -/
  | rngDelivers (a : RngAnswer)
  /-- The platform drives the RNG_AVAIL input (10_state.md R36). -/
  | setRngAvail (b : Bool)
  /-- The platform asserts the RESET input (70_reset_and_hazards.md R250). -/
  | assertReset
  deriving DecidableEq, Repr

/-- What the RNG does once the answers of `Env.rngQueue` are used up (log 5). -/
inductive RngRest where
  /-- It never answers again (43_accumulator.md R171). -/
  | silent
  /-- It gives this one answer for ever: a closed source (`short`), the all-rejected source of R170. -/
  | always (a : RngAnswer)
  /-- It gives the free answers of `Config.freeRngAnswer`. -/
  | free
  deriving DecidableEq, Repr

/-- Everything outside PGCORE that its steps read or drive: the inputs that 10_state.md R20 says are not its state. -/
structure Env where
  /-- The coming actions, next first (log 2); when there is none the CORE runs on (log 3). -/
  agenda       : List Turn
  /-- RESET is asserted and not yet served (70_reset_and_hazards.md R250; log 9). -/
  resetIn      : Bool
  /-- The data the read port last returned to the HOST (30_encoding.md R82; log 8). -/
  readData     : Word64
  /-- RNG_AVAIL (10_state.md R36). -/
  rngAvail     : Bool
  /-- The RNG's answers already determined, in the order of the requests (20_memory.md R55; log 5). -/
  rngQueue     : List RngAnswer
  /-- What the RNG does after those (log 5). -/
  rngRest      : RngRest
  /-- How many free answers have been drawn; the model's own counter (log 5). -/
  rngDraws     : Nat
  /-- Requests abandoned by a reset whose answer has not come yet (70_reset_and_hazards.md R250; log 6). -/
  rngAbandoned : Nat
  deriving DecidableEq, Repr

/-- The complete state of PGCORE, one field per row of 10_state.md R20, and the inputs beside it. -/
structure State where
  /-- BUF (R21). -/
  buf         : BitVec 64
  /-- VALID (R22). -/
  valid       : BitVec 7
  /-- STATE (R24). -/
  state       : RunState
  /-- CFG_MODE (R25). -/
  cfgMode     : Mode
  /-- CFG_VERBOSE (R25, R195). -/
  cfgVerbose  : Bool
  /-- CFG_TARGET (R25). -/
  cfgTarget   : Target
  /-- RMODE (R26). -/
  rmode       : Mode
  /-- RTARGET (R26). -/
  rtarget     : Target
  /-- ACC_BITS (R27). -/
  accBits     : BitVec 34
  /-- ACC_COUNT (R28). -/
  accCount    : BitVec 32
  /-- DRAW_COUNT (R29). -/
  drawCount   : BitVec 64
  /-- REFILL_COUNT (R30). -/
  refillCount : BitVec 64
  /-- ERR_CODE (R31). -/
  errCode     : BitVec 3
  /-- REJ (R32). -/
  rej         : Bool
  /-- DOMAIN (R33). -/
  domain      : Memory
  /-- DOMAIN_COUNT (R34). -/
  domainCount : BitVec 19
  /-- OUT (R35), oldest record first. -/
  out         : List Token
  /-- The inputs: not state of PGCORE (R20). -/
  env         : Env
  deriving DecidableEq, Repr

/-- Why the machine stops. -/
inductive Fault where
  /-- Raised by MAP_WORD's LutRead of an entry that holds no value (20_memory.md R53, 93 I1; log 11). Safe: the spec asks
  for this fault, and no state reachable from reset raises it. -/
  | lutEntryUnwritten (index : WordSymbol)
  deriving DecidableEq, Repr

/-- What has no meaning in this model. -/
inductive Refusal where
  /-- Raised by an arm of `exec` whose instruction has no meaning yet: none. Safe. -/
  | notModelled (mnemonic : String)
  /-- Raised by TAKE_SYMBOL when asked for more bits than BUF has (40_bit_buffer.md R105, 93 I7; log 18). Safe: the spec
  asks for this refusal, and no step raises it. -/
  | symbolTooWide (width : Nat)
  deriving DecidableEq, Repr

/-- The inputs of a machine that has just been reset and is asked nothing yet: no action pending, RESET not asserted, the
random source open (log 7) and free in what it answers (log 5). -/
def Env.initial : Env where
  agenda       := []
  resetIn      := false
  readData     := 0#64
  rngAvail     := true
  rngQueue     := []
  rngRest      := .free
  rngDraws     := 0
  rngAbandoned := 0

/-- Every piece of state at the value of 10_state.md R43, with these inputs (70_reset_and_hazards.md R250). -/
def State.resetWith (e : Env) : State where
  buf         := 0#64
  valid       := 0#7
  state       := .idle
  cfgMode     := .word
  cfgVerbose  := false
  cfgTarget   := Config.defaultBits
  rmode       := .word
  rtarget     := Config.defaultBits
  accBits     := 0#34
  accCount    := 0#32
  drawCount   := 0#64
  refillCount := 0#64
  errCode     := 0#3
  rej         := false
  domain      := []
  domainCount := 0#19
  out         := []
  env         := e

/-- PGCORE right after reset (10_state.md R43). -/
def State.reset : State := State.resetWith Env.initial

end Sys2Proof.Machine
end

