-- ==== Sys2Proof/Machine/Flags.lean ====
section
/-! DEFINITION. The status bits and the comparisons of PGCORE, each computed afresh and none stored (10_state.md R46), and
the error codes (60_exceptions.md R222). -/

namespace Sys2Proof.Machine

/-- ERR_CODE 0, NONE. -/
@[simp] abbrev errNone : BitVec 3 := 0#3

/-- ERR_CODE 1, EntropySourceUnavailable (60_exceptions.md R223). -/
@[simp] abbrev errSourceUnavailable : BitVec 3 := 1#3

/-- ERR_CODE 2, EntropySourceExhausted (60_exceptions.md R224). -/
@[simp] abbrev errSourceExhausted : BitVec 3 := 2#3

/-- ERR_CODE 4, InsufficientDomain (60_exceptions.md R225). -/
@[simp] abbrev errInsufficientDomain : BitVec 3 := 4#3

/-- The encoding of STATE (10_state.md R24). -/
def RunState.code : RunState → BitVec 2
  | .idle       => 0#2
  | .collecting => 1#2
  | .done       => 2#2
  | .error      => 3#2

/-- DFULL: 1 exactly when DOMAIN_COUNT = WORD_N (10_state.md R38). -/
def domainFull (s : State) : Bool := s.domainCount.toNat == Config.wordCount

/-- The STATUS register: STATE in [1:0], REJ in [2], DFULL in [3] (10_state.md R38). -/
def statusRegister (s : State) : Word64 :=
  (BitVec.ofBool (domainFull s) ++ BitVec.ofBool s.rej ++ s.state.code).setWidth 64

/-- The CFG register: CFG_MODE in [0], CFG_VERBOSE in [1] (10_state.md R39). -/
def cfgRegister (s : State) : Word64 :=
  (BitVec.ofBool s.cfgVerbose ++ BitVec.ofBool s.cfgMode.bit).setWidth 64

/-- The RUN register: RMODE in [0] (10_state.md R37). -/
def runRegister (s : State) : Word64 := (BitVec.ofBool s.rmode.bit).setWidth 64

/-- The PARAMS constant (10_state.md R40), its eight bytes from the most significant. -/
def paramsRegister : Word64 :=
  0#8 ++ BitVec.ofNat 8 Config.commandSetVersion ++ BitVec.ofNat 8 Config.digitMax ++ BitVec.ofNat 8 Config.targetWidth
    ++ BitVec.ofNat 8 Config.tokenWidth ++ BitVec.ofNat 8 Config.digitWidth ++ BitVec.ofNat 8 Config.wordWidth
    ++ BitVec.ofNat 8 Config.regWidth

/-- The condition of TERMINAL (43_accumulator.md R163): the bits against the target in WORD mode, the count in DIGIT mode,
compared unsigned. -/
def targetMet (s : State) : Bool :=
  match s.rmode with
  | .word  => decide (s.rtarget.setWidth 34 ≤ s.accBits)
  | .digit => decide (s.rtarget ≤ s.accCount)

/-- A command that only a machine without a running run accepts is rejected in COLLECTING (30_encoding.md R78). -/
def runInProgress (s : State) : Bool := s.state == .collecting

end Sys2Proof.Machine
end

