-- ==== Sys2Proof/Machine/Operands.lean ====
section
/-! DEFINITION. Operand assembly: the CFG target, the width of a mode's symbol, and the byte order of a refill. -/

namespace Sys2Proof.Machine

/-- The default target of a mode: DEF_BITS or DEF_DIGITS (30_encoding.md R73). -/
def defaultTarget : Mode → Target
  | .word  => Config.defaultBits
  | .digit => Config.defaultDigits

/-- The target a CFG writes (30_encoding.md R73): the mode's default when def = 1, cmd[63:32] when def = 0. -/
def cfgTargetOperand (m : Mode) (useDefault : Bool) (t : Target) : Target :=
  if useDefault then defaultTarget m else t

/-- The width of a draw in this mode: WORD_W or DIGIT_W (43_accumulator.md R166). -/
def symbolWidth : Mode → Nat
  | .word  => Config.wordWidth
  | .digit => Config.digitWidth

/-- Eight stream bytes as one register value, the first byte in the least significant place (20_memory.md R56). -/
def littleEndianWord (b0 b1 b2 b3 b4 b5 b6 b7 : Byte) : BitVec 64 :=
  b7 ++ b6 ++ b5 ++ b4 ++ b3 ++ b2 ++ b1 ++ b0

end Sys2Proof.Machine
end

