-- ==== Sys2Proof/Machine/Ops.lean ====
section
/-! DEFINITION. The named operations of 00_scope.md R14 over the LUT, the random source, OUT and the registers, the error
entry (60_exceptions.md R229) and reset (70_reset_and_hazards.md R250). -/

namespace Sys2Proof.Machine

/-- The value entry `i` holds, `none` where nothing was written (20_memory.md R53). -/
def Memory.read : Memory → Nat → Option Token
  | [], _ => none
  | (k, v) :: rest, i => if i = k then some v else Memory.read rest i

/-- Set entry `i` to `v`, keeping the cells in rising order (20_memory.md R52). -/
def Memory.write : Memory → Nat → Token → Memory
  | [], i, v => [(i, v)]
  | (k, x) :: rest, i, v =>
    if i < k then (i, v) :: (k, x) :: rest
    else if i = k then (i, v) :: rest
    else (k, x) :: Memory.write rest i v

/-- LutRead (20_memory.md R51): the entry's value, `none` where it has none. An entry at or above DOMAIN_COUNT has not been
pushed since the last LUT_CLEAR or reset and so has no value (93 I1, I2; log 10). -/
def lutRead (s : State) (i : WordSymbol) : Option Token :=
  if i.toNat < s.domainCount.toNat then s.domain.read i.toNat else none

/-- LutWrite at DOMAIN_COUNT, and the count of it (20_memory.md R52; 42_domain_load.md R143). -/
def lutAppend (v : Token) (s : State) : State :=
  { s with domain := s.domain.write s.domainCount.toNat v, domainCount := s.domainCount + 1#19 }

/-- Reject() (30_encoding.md R80): REJ is set, and nothing else changes. -/
def reject (s : State) : State := { s with rej := true }

/-- The error entry, `raise Error(code)` (60_exceptions.md R229): the machine's one exception. -/
def raiseError (code : BitVec 3) (s : State) : State :=
  { s with state := .error, errCode := code, buf := 0#64, valid := 0#7 }

/-- The block at the head of START (43_accumulator.md R160): the run's parameters are latched, and its buffer, counters,
output and status are cleared. -/
def latchRun (s : State) : State :=
  { s with
    rmode := s.cfgMode, rtarget := s.cfgTarget, buf := 0#64, valid := 0#7, accBits := 0#34, accCount := 0#32, out := [],
    drawCount := 0#64, refillCount := 0#64, errCode := errNone, rej := false }

/-- STATE <- COLLECTING (43_accumulator.md R160). -/
def enterCollecting (s : State) : State := { s with state := .collecting }

/-- TERMINAL (43_accumulator.md R163). -/
def terminal (s : State) : State := if targetMet s then { s with state := .done } else s

/-- DRAW_COUNT + 1 modulo 2^64 (43_accumulator.md R166). -/
def countDraw (s : State) : State := { s with drawCount := s.drawCount + 1#64 }

/-- Emit(rec) and the credit of one accepted symbol of this width (43_accumulator.md R166; 20_memory.md R58). -/
def acceptSymbol (rec : Token) (width : Nat) (s : State) : State :=
  { s with out := s.out ++ [rec], accBits := s.accBits + BitVec.ofNat 34 width, accCount := s.accCount + 1#32 }

/-- REFILL's load of a full answer (40_bit_buffer.md R101): all of BUF is replaced and the refill counted. -/
def loadBuffer (v : BitVec 64) (s : State) : State :=
  { s with buf := v, valid := BitVec.ofNat 7 Config.regWidth, refillCount := s.refillCount + 1#64 }

/-- TAKE_SYMBOL's shift: `width` bits leave BUF at the low end (40_bit_buffer.md R104). -/
def shiftOut (width : Nat) (s : State) : State :=
  { s with buf := s.buf >>> width, valid := s.valid - BitVec.ofNat 7 width }

/-- Replace the inputs, leaving PGCORE's own state. -/
def withEnv (e : Env) (s : State) : State := { s with env := e }

/-- The next draw of the run needs a refill: a request to the RNG is outstanding (43_accumulator.md R166, R171). -/
def needsRefill (s : State) : Bool :=
  s.state == .collecting && decide (s.valid.toNat < symbolWidth s.rmode)

/-- RngRead (20_memory.md R55): the RNG's answer to the outstanding request and the inputs after it; `none` while it has
not answered (43_accumulator.md R171). Answers already determined come first, then what `rngRest` says (log 5). -/
def rngRead (e : Env) : Option (RngAnswer × Env) :=
  match e.rngQueue with
  | a :: rest => some (a, { e with rngQueue := rest })
  | [] =>
    match e.rngRest with
    | .silent   => none
    | .always a => some (a, e)
    | .free     => (Config.freeRngAnswer e.rngDraws).map fun a => (a, { e with rngDraws := e.rngDraws + 1 })

/-- The RNG delivers an answer: it answers an abandoned request, and is discarded, or the next one (log 6). -/
def rngDeliver (a : RngAnswer) (e : Env) : Env :=
  if e.rngAbandoned = 0 then { e with rngQueue := e.rngQueue ++ [a] }
  else { e with rngAbandoned := e.rngAbandoned - 1 }

/-- A reset abandons the outstanding request (70_reset_and_hazards.md R250): its answer is discarded, now if it is
determined, on arrival if not (log 6). -/
def rngAbandon (e : Env) : Env :=
  match rngRead e with
  | some (_, e') => e'
  | none => { e with rngAbandoned := e.rngAbandoned + 1, rngDraws := e.rngDraws + 1 }

/-- The inputs after a reset: an outstanding request is abandoned, and RESET has been served (log 9). -/
def resetEnv (s : State) : Env :=
  { (if needsRefill s then rngAbandon s.env else s.env) with resetIn := false }

/-- Reset (70_reset_and_hazards.md R250): every piece of state at its value of 10_state.md R43. -/
def resetAction (s : State) : State := State.resetWith (resetEnv s)

end Sys2Proof.Machine
end

