-- ==== Sys2Proof/Machine/BitBuffer.lean ====
section
/-! DEFINITION. The bit buffer: REFILL and TAKE_SYMBOL (40_bit_buffer.md). -/

namespace Sys2Proof.Machine

/-- How a REFILL ends. -/
inductive RefillResult where
  /-- BUF holds eight fresh bytes. -/
  | filled (t : State)
  /-- The answer was `short`; the error entry has been taken. -/
  | failed (t : State)
  /-- The RNG has not answered. -/
  | waiting
  deriving DecidableEq, Repr

/-- REFILL (40_bit_buffer.md R101). -/
def refill (s : State) : RefillResult :=
  match rngRead s.env with
  | none => .waiting
  | some (.short, e) => .failed (raiseError errSourceExhausted (withEnv e s))
  | some (.full b0 b1 b2 b3 b4 b5 b6 b7, e) =>
    .filled (loadBuffer (littleEndianWord b0 b1 b2 b3 b4 b5 b6 b7) (withEnv e s))

/-- How a TAKE_SYMBOL ends. -/
inductive TakeResult (width : Nat) where
  /-- A symbol, and the state with its bits shifted out. -/
  | symbol (x : BitVec width) (t : State)
  /-- The refill failed; the error entry has been taken. -/
  | exhausted (t : State)
  /-- The refill waits for the RNG. -/
  | waiting
  /-- More bits were asked for than BUF has (40_bit_buffer.md R105). -/
  | tooWide
  deriving DecidableEq, Repr

/-- The symbol in the low end of BUF, and its bits shifted out (40_bit_buffer.md R104). -/
def drawLow (width : Nat) (s : State) : TakeResult width :=
  .symbol (s.buf.setWidth width) (shiftOut width s)

/-- TAKE_SYMBOL (40_bit_buffer.md R104). -/
def takeSymbol (width : Nat) (s : State) : TakeResult width :=
  if Config.regWidth < width then .tooWide
  else if s.valid.toNat < width then
    match refill s with
    | .filled t => drawLow width t
    | .failed t => .exhausted t
    | .waiting  => .waiting
  else drawLow width s

end Sys2Proof.Machine
end

