-- ==== Sys2Proof/Machine/Mapper.lean ====
section
/-! DEFINITION. The domain mapper and the rejection filter (41_domain_mapper.md). -/

namespace Sys2Proof.Machine

/-- MAP_WORD (41_domain_mapper.md R120): the LUT entry of the symbol, `none` where it holds no value (20_memory.md R53). -/
def mapWord (s : State) (x : WordSymbol) : Option Token := lutRead s x

/-- MAP_DIGIT (41_domain_mapper.md R124): the symbol itself when it is at most DIGIT_MAX, else a rejection. -/
def mapDigit (x : DigitSymbol) : Option DigitSymbol :=
  if x.toNat ≤ Config.digitMax then some x else none

/-- The OUT record of a digit, zext_32(d) (20_memory.md R58; 41_domain_mapper.md R128). -/
def digitRecord (d : DigitSymbol) : Token := d.setWidth 32

end Sys2Proof.Machine
end

