-- ==== Sys2Proof/Machine/Accumulator.lean ====
section
/-! DEFINITION. The accumulator loop: START and STEP (43_accumulator.md). -/

namespace Sys2Proof.Machine

/-- The two START-time checks in the order of 60_exceptions.md R232, then the launch (43_accumulator.md R160). -/
def launchRun (s : State) : State :=
  if s.cfgMode = .word ∧ s.domainCount.toNat < Config.wordCount then raiseError errInsufficientDomain s
  else if s.env.rngAvail = false then raiseError errSourceUnavailable s
  else terminal (enterCollecting s)

/-- START (43_accumulator.md R160). -/
def execStart (s : State) : Host.Outcome State Fault Refusal :=
  if runInProgress s then .next (reject s) else .next (launchRun (latchRun s))

/-- A WORD symbol always maps and is accepted (43_accumulator.md R166); an entry without a value faults (20_memory.md
R53; log 11). -/
def acceptWord (x : WordSymbol) (t : State) : Host.Outcome State Fault Refusal :=
  match mapWord t x with
  | some tok => .next (terminal (acceptSymbol tok Config.wordWidth (countDraw t)))
  | none     => .fault (.lutEntryUnwritten x)

/-- A DIGIT symbol is accepted or rejected; after a rejection the run stays COLLECTING, to draw again at its next STEP
(43_accumulator.md R166, R169). -/
def acceptOrRejectDigit (x : DigitSymbol) (t : State) : State :=
  match mapDigit x with
  | some d => terminal (acceptSymbol (digitRecord d) Config.digitWidth (countDraw t))
  | none   => countDraw t

/-- STEP in WORD mode (43_accumulator.md R166, R167). -/
def wordStep (s : State) : Host.Outcome State Fault Refusal :=
  match takeSymbol Config.wordWidth s with
  | .symbol x t  => acceptWord x t
  | .exhausted t => .next t
  | .waiting     => .next s
  | .tooWide     => .refused (.symbolTooWide Config.wordWidth)

/-- STEP in DIGIT mode (43_accumulator.md R166, R169). -/
def digitStep (s : State) : Host.Outcome State Fault Refusal :=
  match takeSymbol Config.digitWidth s with
  | .symbol x t  => .next (acceptOrRejectDigit x t)
  | .exhausted t => .next t
  | .waiting     => .next s
  | .tooWide     => .refused (.symbolTooWide Config.digitWidth)

/-- The CORE's turn: one STEP when the run is COLLECTING (43_accumulator.md R166). When no STEP is enabled, because no run
collects or because the RNG has not answered (R171), the turn passes and the state is unchanged (log 3, 4). -/
def coreTurn (s : State) : Host.Outcome State Fault Refusal :=
  match s.state, s.rmode with
  | .collecting, .word  => wordStep s
  | .collecting, .digit => digitStep s
  | .idle, _  => .next s
  | .done, _  => .next s
  | .error, _ => .next s

end Sys2Proof.Machine
end

