-- ==== Sys2Proof/Machine/Control.lean ====
section
/-! DEFINITION. The control commands and the register reads: NOP, CFG, READ and the entropy report
(44_control_and_report.md). -/

namespace Sys2Proof.Machine

/-- NOP (44_control_and_report.md R190). -/
def execNop (s : State) : Host.Outcome State Fault Refusal := .next s

/-- The three configuration registers take these values (44_control_and_report.md R192). -/
def setConfig (mode : Mode) (verbose : Bool) (target : Target) (s : State) : State :=
  { s with cfgMode := mode, cfgVerbose := verbose, cfgTarget := target }

/-- CFG (44_control_and_report.md R192). -/
def execCfg (mode : Mode) (verbose useDefault : Bool) (target : Target) (s : State) : Host.Outcome State Fault Refusal :=
  .next (setConfig mode verbose (cfgTargetOperand mode useDefault target) s)

/-- REPORT (44_control_and_report.md R198): the bits in WORD mode, the count in DIGIT mode. -/
def reportRegister (s : State) : Word64 :=
  match s.rmode with
  | .word  => s.accBits.setWidth 64
  | .digit => s.accCount.setWidth 64

/-- The value of the register at a read address (44_control_and_report.md R196; 10_state.md R37, R41). -/
def readRegister (addr : ReadAddr) (s : State) : Word64 :=
  match addr.toNat with
  | 0x00 => statusRegister s
  | 0x01 => s.errCode.setWidth 64
  | 0x02 => cfgRegister s
  | 0x03 => s.cfgTarget.setWidth 64
  | 0x04 => runRegister s
  | 0x05 => s.rtarget.setWidth 64
  | 0x06 => s.accBits.setWidth 64
  | 0x07 => s.accCount.setWidth 64
  | 0x08 => reportRegister s
  | 0x09 => s.valid.setWidth 64
  | 0x0A => s.drawCount
  | 0x0B => s.refillCount
  | 0x0C => s.domainCount.setWidth 64
  | 0x0D => paramsRegister
  | _    => 0#64

/-- READ (44_control_and_report.md R196): the data goes to the HOST, and no state of PGCORE changes (log 8). -/
def execRead (addr : ReadAddr) (s : State) : Host.Outcome State Fault Refusal :=
  .next (withEnv { s.env with readData := readRegister addr s } s)

end Sys2Proof.Machine
end

