-- ==== Sys2Proof/Machine/DomainLoad.lean ====
section
/-! DEFINITION. Loading the domain: LUT_CLEAR and LUT_PUSH (42_domain_load.md). -/

namespace Sys2Proof.Machine

/-- DOMAIN_COUNT <- 0; the entries are not erased (42_domain_load.md R140). -/
def clearDomain (s : State) : State := { s with domainCount := 0#19 }

/-- LUT_CLEAR (42_domain_load.md R140). -/
def execLutClear (s : State) : Host.Outcome State Fault Refusal :=
  if runInProgress s then .next (reject s) else .next (clearDomain s)

/-- A token is appended while there is room, and dropped when the LUT is full (42_domain_load.md R143, R144). -/
def pushToken (token : Token) (s : State) : State :=
  if s.domainCount.toNat < Config.wordCount then lutAppend token s else s

/-- LUT_PUSH (42_domain_load.md R143). -/
def execLutPush (token : Token) (s : State) : Host.Outcome State Fault Refusal :=
  if runInProgress s then .next (reject s) else .next (pushToken token s)

end Sys2Proof.Machine
end

