-- ==== Sys2Proof/Machine/Dispatch.lean ====
section
/-! DEFINITION. The meaning of every instruction, one arm per constructor. -/

namespace Sys2Proof.Machine

def exec (i : Instr) (s : State) : Host.Outcome State Fault Refusal :=
  match i with
  | .nop => Sys2Proof.Machine.execNop s
  | .cfg mode verbose useDefault target => Sys2Proof.Machine.execCfg mode verbose useDefault target s
  | .lutClear => Sys2Proof.Machine.execLutClear s
  | .lutPush token => Sys2Proof.Machine.execLutPush token s
  | .start => Sys2Proof.Machine.execStart s
  | .read addr => Sys2Proof.Machine.execRead addr s

end Sys2Proof.Machine
end

