-- ==== Sys2Proof/Machine/Agents.lean ====
section
/-! DEFINITION. Whose action comes next, and the action: the interleaving of HOST, CORE, RNG and platform (20_memory.md
R61; log 2, 3). -/

namespace Sys2Proof.Machine

/-- perform(cmd) and READ (30_encoding.md R77, R82): what is on the port is decoded and executed; an ILLEGAL word is
rejected (R79, R80). -/
def performAccess (p : PortAccess) (s : State) : Host.Outcome State Fault Refusal :=
  match decode p with
  | .ok i    => exec i s
  | .error _ => .next (reject s)

/-- One action of the agenda. -/
def takeTurn (t : Turn) (s : State) : Host.Outcome State Fault Refusal :=
  match t with
  | .host p        => performAccess p s
  | .core          => coreTurn s
  | .rngDelivers a => .next (withEnv (rngDeliver a s.env) s)
  | .setRngAvail b => .next (withEnv { s.env with rngAvail := b } s)
  | .assertReset   => .next (withEnv { s.env with resetIn := true } s)

/-- The state whose agenda is `rest`. -/
def withAgenda (rest : List Turn) (s : State) : State := withEnv { s.env with agenda := rest } s

/-- The machine's next action: an asserted RESET before anything else (70_reset_and_hazards.md R250), then the head of the
agenda, then, with no action pending, the CORE (log 3). -/
def nextAction (s : State) : Host.Outcome State Fault Refusal :=
  if s.env.resetIn then .next (resetAction s)
  else
    match s.env.agenda with
    | []        => coreTurn s
    | t :: rest => takeTurn t (withAgenda rest s)

/-- The state in which this port access is the next action: it stands first in the agenda, and RESET is not asserted
(log 12). -/
def withNextAccess (p : PortAccess) (s : State) : State :=
  withEnv { s.env with agenda := .host p :: s.env.agenda, resetIn := false } s

end Sys2Proof.Machine
end

