-- ==== Sys2Proof/Machine/Step.lean ====
section
/-! DEFINITION. One step of the machine is one atomic action (20_memory.md R60). -/

namespace Sys2Proof.Machine

/-- One atomic action of the total order of 20_memory.md R61. -/
def step (s : State) : Host.Outcome State Fault Refusal := nextAction s

/-- The state in which the HOST's next action is the port access that the table word `w` of `nbits` bits stands for
(log 12). -/
def State.withFetchWord (s : State) (nbits w : Nat) : State := withNextAccess (tableAccess nbits w) s

end Sys2Proof.Machine
end

