-- ==== Sys2Proof/Safety.lean ====
section
/-! DEFINITION. What the claims speak of: the invariants of a run (10_state.md R22, R23, R31, R34, R47; 43_accumulator.md R167, R168, R172), whose action a step is (20_memory.md R61), when a STEP is enabled (43_accumulator.md R166), and short sequences of operations. -/

namespace Sys2Proof.Safety

open Sys2Proof.Machine

/-- The buffer's invariant: VALID is in [0, W] (10_state.md R22) and every bit of BUF at or above it is 0 (R23). -/
def BufferOk (s : State) : Prop :=
  s.valid.toNat ≤ Config.regWidth ∧ s.buf.toNat < 2 ^ s.valid.toNat

/-- The LUT's invariant: its cells are in canonical form, DOMAIN_COUNT is at most WORD_N (10_state.md R34), and every entry
below DOMAIN_COUNT holds a value (42_domain_load.md R143). -/
def DomainOk (s : State) : Prop :=
  s.domain.wf ∧ s.domainCount.toNat ≤ Config.wordCount ∧
    ∀ i < s.domainCount.toNat, ∃ v, s.domain.read i = some v

/-- ERR_CODE is 0, 1, 2 or 4, and is not 0 exactly when STATE = ERROR (10_state.md R31). -/
def StatusOk (s : State) : Prop :=
  (s.errCode = errNone ∨ s.errCode = errSourceUnavailable ∨ s.errCode = errSourceExhausted ∨
    s.errCode = errInsufficientDomain) ∧
  (s.errCode ≠ errNone ↔ s.state = .error)

/-- A WORD run collects only over a full LUT (20_memory.md R53). -/
def WordRunHasDomain (s : State) : Prop :=
  s.state = .collecting → s.rmode = .word → s.domainCount.toNat = Config.wordCount

/-- What a run that is DONE has accumulated: in WORD mode the target is met by less than one symbol, in DIGIT mode exactly
(43_accumulator.md R172). -/
def JustMet (s : State) : Prop :=
  match s.rmode with
  | .word  => s.rtarget.toNat ≤ s.accBits.toNat ∧ s.accBits.toNat < s.rtarget.toNat + Config.wordWidth
  | .digit => s.accCount.toNat = s.rtarget.toNat

/-- What a run that still collects has not reached (43_accumulator.md R163). -/
def NotMet (s : State) : Prop :=
  match s.rmode with
  | .word  => s.accBits.toNat < s.rtarget.toNat
  | .digit => s.accCount.toNat < s.rtarget.toNat

/-- The accounting of a run: one record and one count per accepted symbol, its width in ACC_BITS (10_state.md R27, R28), the
target not yet met while collecting and just met when done. -/
def AccountOk (s : State) : Prop :=
  s.out.length = s.accCount.toNat ∧
  s.accBits.toNat = symbolWidth s.rmode * s.accCount.toNat ∧
  (s.state = .collecting → NotMet s) ∧
  (s.state = .done → JustMet s)

/-- Every record of a DIGIT run is a digit (43_accumulator.md R170). -/
def DigitsOk (s : State) : Prop :=
  s.rmode = .digit → ∀ r ∈ s.out, r.toNat ≤ Config.digitMax

/-- A DIGIT run's refills discard no bit: VALID stays a multiple of the symbol width (40_bit_buffer.md R103, R107). -/
def DigitBufferOk (s : State) : Prop :=
  s.rmode = .digit → s.valid.toNat % Config.digitWidth = 0

/-- A WORD run's draws and refills: every draw is accepted, and of n draws the refills are ceil(n/3), with 10 bits and the
18 bits of each symbol not yet drawn left in BUF (40_bit_buffer.md R103, R107; 43_accumulator.md R168). -/
def WordDrawsOk (s : State) : Prop :=
  s.rmode = .word → s.state = .collecting ∨ s.state = .done →
    s.drawCount.toNat = s.accCount.toNat ∧
    ((s.accCount.toNat = 0 ∧ s.refillCount.toNat = 0 ∧ s.valid.toNat = 0) ∨
     (0 < s.refillCount.toNat ∧ s.accCount.toNat ≤ 3 * s.refillCount.toNat ∧
      3 * s.refillCount.toNat ≤ s.accCount.toNat + 2 ∧
      s.valid.toNat = 10 + 18 * (3 * s.refillCount.toNat - s.accCount.toNat)))

/-- The invariant of PGCORE's reachable states (10_state.md R47). -/
structure Invariant (s : State) : Prop where
  buffer      : BufferOk s
  domain      : DomainOk s
  status      : StatusOk s
  wordDomain  : WordRunHasDomain s
  account     : AccountOk s
  digits      : DigitsOk s
  digitBuffer : DigitBufferOk s
  wordDraws   : WordDrawsOk s

/-- A STEP is enabled: a run collects, and its next draw needs no refill or the RNG has answered (43_accumulator.md R166,
R171). -/
def stepEnabled (s : State) : Bool :=
  s.state == .collecting && (!needsRefill s || (rngRead s.env).isSome)

/-- `k` steps, stopping at the first fault or refusal. -/
def steps : Nat → State → Host.Outcome State Fault Refusal
  | 0, s => .next s
  | k + 1, s =>
    match step s with
    | .next t    => steps k t
    | .fault r   => .fault r
    | .refused r => .refused r

/-- Whose action the next step is (20_memory.md R61). -/
inductive Action where
  | reset
  | core
  | instruction (i : Instr)
  | illegal
  | input
  deriving DecidableEq, Repr

/-- The action at the head of the agenda. -/
def actionOfTurn : Turn → Action
  | .host p =>
    match decode p with
    | .ok i    => .instruction i
    | .error _ => .illegal
  | .core          => .core
  | .rngDelivers _ => .input
  | .setRngAvail _ => .input
  | .assertReset   => .input

/-- The action the next step performs. -/
def actionOf (s : State) : Action :=
  if s.env.resetIn then .reset
  else
    match s.env.agenda with
    | []     => .core
    | t :: _ => actionOfTurn t

/-- An ILLEGAL command word, by 30_encoding.md R71 and R79: a reserved opcode, or a nonzero must-be-zero bit. -/
def IllegalWord (w : Word64) : Prop :=
  let op := (w.extractLsb' 0 4).toNat
  5 ≤ op ∨ ((op = 0 ∨ op = 2 ∨ op = 4) ∧ w.extractLsb' 4 60 ≠ 0#60) ∨
    (op = 1 ∧ w.extractLsb' 7 25 ≠ 0#25) ∨ (op = 3 ∧ w.extractLsb' 4 28 ≠ 0#28)

/-- The LUT_PUSHes of these tokens, one after another (30_encoding.md R85, LOAD_DOMAIN without its LUT_CLEAR). -/
def pushAll : List Token → State → Host.Outcome State Fault Refusal
  | [], s => .next s
  | t :: ts, s =>
    match exec (.lutPush t) s with
    | .next s'   => pushAll ts s'
    | .fault r   => .fault r
    | .refused r => .refused r

/-- `n` successive TAKE_SYMBOLs: the symbols in the order drawn and the state after; `none` if one gives no symbol. -/
def takeMany (width : Nat) : Nat → State → Option (List (BitVec width) × State)
  | 0, s => some ([], s)
  | n + 1, s =>
    match takeSymbol width s with
    | .symbol x t => (takeMany width n t).map fun p => (x :: p.1, p.2)
    | .exhausted _ => none
    | .waiting     => none
    | .tooWide     => none

/-- What two states have in common when they differ at most in what no HOST access may show: BUF and the LUT's entries
(10_state.md R21; 60_exceptions.md R235). -/
def visible (s : State) : State := { s with buf := 0#64, domain := [] }

end Sys2Proof.Safety
end

