-- ==== Sys2Proof/Certificates/Slice0/Obligations.lean ====
section
/-! DEFINITION. The statements for the provers. Each docstring names the rules of spec/ a statement formalises, and the log
entry where a clause rests on the model's choice. -/

open Sys2Proof Sys2Proof.Machine Sys2Proof.Safety

/-! ### Encoding (30_encoding.md) -/

/-- R86: the twelve words of the table decode to the commands named, and the two ILLEGAL ones to none. -/
def Obligations.SpecTableWordsDecode : Prop :=
  decodeCommand 0x0000000000000000#64 = .ok .nop ∧
  decodeCommand 0x0000004000000001#64 = .ok (.cfg .word false false 64#32) ∧
  decodeCommand 0x0000000100000001#64 = .ok (.cfg .word false false 1#32) ∧
  decodeCommand 0x0000000000000041#64 = .ok (.cfg .word false true 0#32) ∧
  decodeCommand 0x0000000300000011#64 = .ok (.cfg .digit false false 3#32) ∧
  decodeCommand 0x0000000000000051#64 = .ok (.cfg .digit false true 0#32) ∧
  decodeCommand 0x0000000300000031#64 = .ok (.cfg .digit true false 3#32) ∧
  decodeCommand 0x0000000000000002#64 = .ok .lutClear ∧
  decodeCommand 0x0000100000000003#64 = .ok (.lutPush 0x00001000#32) ∧
  decodeCommand 0x0000000000000004#64 = .ok .start ∧
  (∃ r, decodeCommand 0x0000000000000005#64 = .error r) ∧
  (∃ r, decodeCommand 0x0000000000000104#64 = .error r)

/-- R71, R73, R74, R77: decoding the encoding of any instruction gives it back, every operand at every value. -/
def Obligations.DecodeOfEncodeIsInstruction : Prop :=
  ∀ i : Instr, decode (encode i) = .ok i

/-- R71, R77, R81: each port access that decodes is the encoding of what it decodes to, so it has one meaning and no bit of it
is dropped. -/
def Obligations.EncodeOfDecodeIsAccess : Prop :=
  ∀ (p : PortAccess) (i : Instr), decode p = .ok i → encode i = p

/-- R76: a word decodes exactly when it is well formed, that is when it matches a row under its mask, and it matches at most
one row. -/
def Obligations.DecodedWordsAreTableWords : Prop :=
  ∀ w : Word64,
    ((∃ i, decodeCommand w = .ok i) ↔ wellFormedWord w = true) ∧
    (∀ r₁ ∈ opcodeRows, ∀ r₂ ∈ opcodeRows, r₁.matchesWord w = true → r₂.matchesWord w = true → r₁ = r₂)

/-- R79: a word with a reserved opcode or with a nonzero must-be-zero bit is ILLEGAL; issuing it sets REJ and changes nothing
else, in every state. -/
def Obligations.IllegalWordOnlySetsRej : Prop :=
  ∀ (s : State) (w : Word64), IllegalWord w → performAccess (.command w) s = .next { s with rej := true }

/-- R79: nothing but the ILLEGAL words is rejected by the decoder. -/
def Obligations.OnlyIllegalWordsFailToDecode : Prop :=
  ∀ w : Word64, (∃ r, decodeCommand w = .error r) ↔ IllegalWord w

/-! ### Steps and their order (20_memory.md R60, R61) -/

/-- R60, R61, R77, R80; log 2: when the next action is a port access, the step is the `exec` of the instruction it decodes to,
at the state whose agenda has moved on; an access that does not decode sets REJ there and does nothing else. -/
def Obligations.StepRunsDecodedInstruction : Prop :=
  ∀ (s : State) (p : PortAccess) (rest : List Turn), s.env.resetIn = false → s.env.agenda = .host p :: rest →
    (∀ i, decode p = .ok i → i.wellFormed = true → step s = exec i { s with env := { s.env with agenda := rest } }) ∧
    (∀ r, decode p = .error r → step s = .next { s with rej := true, env := { s.env with agenda := rest } })

/-- R61, R166; log 2, 3: with no action pending, or at a CORE turn, the step is the CORE's. -/
def Obligations.StepGivesCoreItsTurn : Prop :=
  ∀ s : State, s.env.resetIn = false →
    (s.env.agenda = [] → step s = coreTurn s) ∧
    (∀ rest, s.env.agenda = .core :: rest → step s = coreTurn { s with env := { s.env with agenda := rest } })

/-- R42: which registers each kind of action may write; a reset may write all. -/
def Obligations.OnlyNamedWritersWrite : Prop :=
  ∀ s t : State, step s = .next t →
    match actionOf s with
    | .reset => True
    | .core =>
      t = { s with buf := t.buf, valid := t.valid, state := t.state, accBits := t.accBits, accCount := t.accCount,
                   drawCount := t.drawCount, refillCount := t.refillCount, errCode := t.errCode, out := t.out, env := t.env }
    | .input => t = { s with env := t.env }
    | .illegal => t = { s with rej := true, env := t.env }
    | .instruction .nop => t = { s with env := t.env }
    | .instruction (.read _) => t = { s with env := t.env }
    | .instruction (.cfg _ _ _ _) =>
      t = { s with cfgMode := t.cfgMode, cfgVerbose := t.cfgVerbose, cfgTarget := t.cfgTarget, env := t.env }
    | .instruction .lutClear => t = { s with domainCount := t.domainCount, rej := t.rej, env := t.env }
    | .instruction (.lutPush _) =>
      t = { s with domain := t.domain, domainCount := t.domainCount, rej := t.rej, env := t.env }
    | .instruction .start =>
      if s.state = .collecting then t = { s with rej := true, env := t.env }
      else t = { State.reset with
        cfgMode := s.cfgMode, cfgVerbose := s.cfgVerbose, cfgTarget := s.cfgTarget, domain := s.domain,
        domainCount := s.domainCount, state := t.state, rmode := t.rmode, rtarget := t.rtarget, errCode := t.errCode,
        env := t.env }

/-- R24: the transitions of STATE, and no others. -/
def Obligations.StateTransitionsAreTheSpecs : Prop :=
  ∀ s t : State, step s = .next t → t.state ≠ s.state →
    (actionOf s = .instruction .start ∧ s.state ≠ .collecting ∧ t.state ≠ .idle) ∨
    (actionOf s = .core ∧ s.state = .collecting ∧ (t.state = .done ∨ t.state = .error)) ∨
    (actionOf s = .reset ∧ t.state = .idle)

/-- R78, R80: LUT_CLEAR, LUT_PUSH and START are rejected in COLLECTING: REJ is set and no other state changes. -/
def Obligations.RunRejectsLoadAndStart : Prop :=
  ∀ (s : State) (i : Instr), s.state = .collecting → (i = .lutClear ∨ (∃ v, i = .lutPush v) ∨ i = .start) →
    exec i s = .next { s with rej := true }

/-- R32: REJ is sticky: only an accepted START or a reset clears it. -/
def Obligations.RejIsSticky : Prop :=
  ∀ s t : State, step s = .next t → s.rej = true → t.rej = false →
    actionOf s = .reset ∨ (actionOf s = .instruction .start ∧ s.state ≠ .collecting)

/-! ### Control commands and register reads (44_control_and_report.md) -/

/-- R190: NOP does nothing, in every state; its word is the all-zero word and no other word decodes to it; a word with OP = 0
and any other bit set is rejected: issuing it sets REJ and changes nothing else. -/
def Obligations.NopChangesNothing : Prop :=
  (∀ s : State, exec .nop s = .next s) ∧
  (∀ w : Word64, decodeCommand w = .ok .nop ↔ w = 0#64) ∧
  (∀ (w : Word64) (s : State), w.extractLsb' 0 4 = 0x0#4 → w ≠ 0#64 →
    performAccess (.command w) s = .next { s with rej := true })

/-- R192: CFG writes the three configuration registers, the target from its operand or from the mode's default, in every
state, and nothing else. Log 19: that a CFG without the default writes its own operand when it switches the mode is the
model's reading, where R257 speaks of the previous target. -/
def Obligations.CfgWritesConfiguration : Prop :=
  ∀ (m : Mode) (v d : Bool) (x : Target) (s : State), ∃ t, exec (.cfg m v d x) s = .next t ∧
    t.cfgMode = m ∧ t.cfgVerbose = v ∧
    t.cfgTarget.toNat = (if d = true then (if m = .word then 64 else 8) else x.toNat) ∧
    t = { s with cfgMode := t.cfgMode, cfgVerbose := t.cfgVerbose, cfgTarget := t.cfgTarget }

/-- R192, R73: a command word with OP = 1 and bits [31:7] zero, in every state, sets CFG_MODE from bit 4, CFG_VERBOSE from bit
5, and CFG_TARGET from bits [63:32], or from the chosen mode's default (64 or 8) when bit 6 is set; nothing else changes. Log
19: that bits [63:32] are written when bit 6 is clear and the mode is switched is the model's reading, where R257 speaks of
the previous target. -/
def Obligations.CfgWordWritesConfiguration : Prop :=
  ∀ (w : Word64) (s : State), w.extractLsb' 0 4 = 0x1#4 → w.extractLsb' 7 25 = 0#25 →
    ∃ t, performAccess (.command w) s = .next t ∧
      t.cfgMode = (if w.getLsbD 4 = true then .digit else .word) ∧
      t.cfgVerbose = w.getLsbD 5 ∧
      t.cfgTarget.toNat = (if w.getLsbD 6 = true then (if w.getLsbD 4 = true then 8 else 64) else w.toNat / 2 ^ 32) ∧
      t = { s with cfgMode := t.cfgMode, cfgVerbose := t.cfgVerbose, cfgTarget := t.cfgTarget }

/-- R196: READ answers in every state, returns the register at the address (numbers, from the map), changes nothing of PGCORE,
and hands the HOST nothing else. Log 8: that the data is shown in `env.readData`, which keeps it, is the model's choice. -/
def Obligations.ReadReturnsRegister : Prop :=
  ∀ (a : ReadAddr) (s : State), ∃ d : Word64,
    exec (.read a) s = .next { s with env := { s.env with readData := d } } ∧
    d.toNat =
      (if a = 0x00#8 then
         (match s.state with | .idle => 0 | .collecting => 1 | .done => 2 | .error => 3) + (if s.rej then 4 else 0) +
           (if s.domainCount.toNat = 2 ^ 18 then 8 else 0)
       else if a = 0x01#8 then s.errCode.toNat
       else if a = 0x02#8 then (if s.cfgMode = .digit then 1 else 0) + (if s.cfgVerbose then 2 else 0)
       else if a = 0x03#8 then s.cfgTarget.toNat
       else if a = 0x04#8 then (if s.rmode = .digit then 1 else 0)
       else if a = 0x05#8 then s.rtarget.toNat
       else if a = 0x06#8 then s.accBits.toNat
       else if a = 0x07#8 then s.accCount.toNat
       else if a = 0x08#8 then (if s.rmode = .word then s.accBits.toNat else s.accCount.toNat)
       else if a = 0x09#8 then s.valid.toNat
       else if a = 0x0A#8 then s.drawCount.toNat
       else if a = 0x0B#8 then s.refillCount.toNat
       else if a = 0x0C#8 then s.domainCount.toNat
       else if a = 0x0D#8 then 0x0001092020041240
       else 0)

/-- R21, R235: no instruction shows the HOST anything of BUF or of the LUT's entries: run on two states that differ in those
alone, it leaves states that differ in those alone, the data of a READ included (in `env.readData`, the model's choice, log
8). -/
def Obligations.HostSeesNeitherBufNorEntries : Prop :=
  ∀ (i : Instr) (s₁ s₂ t₁ t₂ : State), visible s₁ = visible s₂ → exec i s₁ = .next t₁ → exec i s₂ = .next t₂ →
    visible t₁ = visible t₂

/-- R26, R173: a CFG during a run changes nothing of the run: the CORE's turn and a CFG commute. -/
def Obligations.CfgCommutesWithCoreTurn : Prop :=
  ∀ (m : Mode) (v d : Bool) (x : Target) (s t s' : State), coreTurn s = .next t → exec (.cfg m v d x) s = .next s' →
    ∃ t', exec (.cfg m v d x) t = .next t' ∧ coreTurn s' = .next t'

/-! ### Domain loading (42_domain_load.md) -/

/-- R140: outside COLLECTING, LUT_CLEAR sets DOMAIN_COUNT to 0 and changes nothing else: the entries are not erased. -/
def Obligations.LutClearEmptiesDomain : Prop :=
  ∀ s : State, s.state ≠ .collecting → exec .lutClear s = .next { s with domainCount := 0#19 }

/-- R140: the word 0x2, in COLLECTING, sets REJ and nothing else; in every other state it sets DOMAIN_COUNT to 0, erases no
entry and changes nothing else; DFULL then reads 0, and after any number of LUT_PUSHes below 2^18 a START of a WORD run raises
InsufficientDomain, so no entry is used until all are reloaded. -/
def Obligations.LutClearWordClearsOrRejects : Prop :=
  ∀ s : State, ∃ t, performAccess (.command 0x0000000000000002#64) s = .next t ∧
    (if s.state = .collecting then t = { s with rej := true }
     else t = { s with domainCount := 0#19 } ∧ (readRegister 0x00#8 t).getLsbD 3 = false ∧
       (s.cfgMode = .word → ∀ ts : List Token, ts.length < 2 ^ 18 →
         ∃ u v, pushAll ts t = .next u ∧ exec .start u = .next v ∧ v.state = .error ∧ v.errCode = 4#3))

/-- R143, R52: outside COLLECTING and below WORD_N, LUT_PUSH writes the entry at DOMAIN_COUNT and counts it; every other entry
and every other register is unchanged. -/
def Obligations.LutPushStoresNextEntry : Prop :=
  ∀ (v : Token) (s : State), s.state ≠ .collecting → s.domainCount.toNat < 2 ^ 18 →
    ∃ t, exec (.lutPush v) s = .next t ∧
      t.domain.read s.domainCount.toNat = some v ∧
      (∀ j, j ≠ s.domainCount.toNat → t.domain.read j = s.domain.read j) ∧
      t.domainCount.toNat = s.domainCount.toNat + 1 ∧
      t = { s with domain := t.domain, domainCount := t.domainCount }

/-- R143: outside COLLECTING, a LUT_PUSH that finds the LUT full is accepted and dropped: nothing changes, REJ included. -/
def Obligations.LutPushToFullDomainIsDropped : Prop :=
  ∀ (v : Token) (s : State), s.state ≠ .collecting → ¬ s.domainCount.toNat < 2 ^ 18 → exec (.lutPush v) s = .next s

/-- R143: a word with OP = 3 and bits [31:4] zero, in COLLECTING, sets REJ and nothing else; in every other state it writes
its token, bits [63:32], to entry DOMAIN_COUNT and counts it while there is room, and is dropped when the LUT is full; DFULL
reads 1 exactly when DOMAIN_COUNT is 2^18 afterwards. -/
def Obligations.LutPushWordLoadsDropsOrRejects : Prop :=
  ∀ (w : Word64) (s : State), w.extractLsb' 0 4 = 0x3#4 → w.extractLsb' 4 28 = 0#28 →
    ∃ t, performAccess (.command w) s = .next t ∧
      (if s.state = .collecting then t = { s with rej := true }
       else if s.domainCount.toNat < 2 ^ 18 then
         t.domain.read s.domainCount.toNat = some (w.extractLsb' 32 32) ∧
         (∀ j, j ≠ s.domainCount.toNat → t.domain.read j = s.domain.read j) ∧
         t.domainCount.toNat = s.domainCount.toNat + 1 ∧
         t = { s with domain := t.domain, domainCount := t.domainCount }
       else t = s) ∧
      ((readRegister 0x00#8 t).getLsbD 3 = true ↔ t.domainCount.toNat = 2 ^ 18)

/-- R144: of the tokens pushed after a LUT_CLEAR the LUT holds exactly the first 2^18, in push order. -/
def Obligations.LutHoldsFirstPushedTokens : Prop :=
  ∀ (ts : List Token) (s : State), s.state ≠ .collecting → s.domainCount = 0#19 →
    ∃ t, pushAll ts s = .next t ∧
      t.domainCount.toNat = min ts.length (2 ^ 18) ∧
      (∀ i, i < min ts.length (2 ^ 18) → t.domain.read i = ts[i]?) ∧
      t = { s with domain := t.domain, domainCount := t.domainCount }

/-- R64, R122: no step of a run, whoever takes it, changes the LUT or its count, short of a reset. -/
def Obligations.DomainIsFixedDuringRun : Prop :=
  ∀ s t : State, s.state = .collecting → s.env.resetIn = false → step s = .next t →
    t.domain = s.domain ∧ t.domainCount = s.domainCount

/-! ### The bit buffer (40_bit_buffer.md) -/

/-- R101, R56: REFILL waits for no answer, raises EntropySourceExhausted on a short one, and on a full one loads the eight
bytes little-endian, sets VALID to 64 and counts. -/
def Obligations.RefillLoadsOrFails : Prop :=
  ∀ s : State,
    (rngRead s.env = none → refill s = .waiting) ∧
    (∀ e, rngRead s.env = some (.short, e) →
      refill s = .failed { s with state := .error, errCode := 2#3, buf := 0#64, valid := 0#7, env := e }) ∧
    (∀ b0 b1 b2 b3 b4 b5 b6 b7 e, rngRead s.env = some (.full b0 b1 b2 b3 b4 b5 b6 b7, e) →
      ∃ t, refill s = .filled t ∧
        t.buf.toNat = b0.toNat + 2 ^ 8 * b1.toNat + 2 ^ 16 * b2.toNat + 2 ^ 24 * b3.toNat + 2 ^ 32 * b4.toNat +
          2 ^ 40 * b5.toNat + 2 ^ 48 * b6.toNat + 2 ^ 56 * b7.toNat ∧
        t.valid.toNat = 64 ∧
        t.refillCount.toNat = (s.refillCount.toNat + 1) % 2 ^ 64 ∧
        t = { s with buf := t.buf, valid := t.valid, refillCount := t.refillCount, env := e })

/-- R104: TAKE_SYMBOL refills when VALID < width, then returns the low `width` bits of BUF, shifts BUF right by `width` and
lowers VALID by `width`; a failed refill gives no symbol and leaves every counter as it was. -/
def Obligations.TakeSymbolDrawsLowBits : Prop :=
  ∀ (w : Nat) (s : State), 1 ≤ w → w ≤ 64 →
    (∀ u : State, (w ≤ s.valid.toNat ∧ u = s ∨ s.valid.toNat < w ∧ refill s = .filled u) →
      ∃ x t, takeSymbol w s = .symbol x t ∧
        x.toNat = u.buf.toNat % 2 ^ w ∧
        t.buf.toNat = u.buf.toNat / 2 ^ w ∧
        t.valid.toNat = u.valid.toNat - w ∧
        t = { u with buf := t.buf, valid := t.valid }) ∧
    (∀ u : State, s.valid.toNat < w → refill s = .failed u →
      takeSymbol w s = .exhausted u ∧
      u = { s with state := .error, errCode := 2#3, buf := 0#64, valid := 0#7, env := u.env }) ∧
    (s.valid.toNat < w → refill s = .waiting → takeSymbol w s = .waiting)

/-- R105 and 93 I7: a TAKE_SYMBOL wider than BUF gives no symbol, and no turn of the CORE makes one. -/
def Obligations.TooWideSymbolIsNeverTaken : Prop :=
  (∀ (w : Nat) (s : State), 64 < w → takeSymbol w s = .tooWide) ∧
  (∀ (s : State) (r : Refusal), coreTurn s ≠ .refused r)

/-- R108, first bullet: the three WORD symbols of one refill in terms of its bytes, and the ten bits left over. -/
def Obligations.WordSymbolsOfOneRefill : Prop :=
  ∀ (s : State) (b0 b1 b2 b3 b4 b5 b6 b7 : Byte) (e : Env), s.valid.toNat < 18 →
    rngRead s.env = some (.full b0 b1 b2 b3 b4 b5 b6 b7, e) →
    ∃ (x0 x1 x2 : BitVec 18) (t : State), takeMany 18 3 s = some ([x0, x1, x2], t) ∧
      x0.toNat = b0.toNat + 2 ^ 8 * b1.toNat + 2 ^ 16 * (b2.toNat % 4) ∧
      x1.toNat = b2.toNat / 4 + 2 ^ 6 * b3.toNat + 2 ^ 14 * (b4.toNat % 16) ∧
      x2.toNat = b4.toNat / 16 + 2 ^ 4 * b5.toNat + 2 ^ 12 * (b6.toNat % 64) ∧
      t.buf.toNat = b6.toNat / 64 + 2 ^ 2 * b7.toNat ∧
      t.valid.toNat = 10

/-- R108, second bullet: the sixteen DIGIT symbols of one refill are the nibbles of its bytes, the low nibble of each byte
before its high one, with no bit left over. -/
def Obligations.DigitSymbolsOfOneRefill : Prop :=
  ∀ (s : State) (b0 b1 b2 b3 b4 b5 b6 b7 : Byte) (e : Env), s.valid.toNat < 4 →
    rngRead s.env = some (.full b0 b1 b2 b3 b4 b5 b6 b7, e) →
    ∃ (xs : List (BitVec 4)) (t : State), takeMany 4 16 s = some (xs, t) ∧
      xs.map BitVec.toNat =
        [b0, b1, b2, b3, b4, b5, b6, b7].flatMap (fun b => [b.toNat % 16, b.toNat / 16]) ∧
      t.valid.toNat = 0

/-! ### The mapper (41_domain_mapper.md) -/

/-- R124, R125: MAP_DIGIT gives 0 to 9 back unchanged and rejects 10 to 15; its acceptance is the comparator not (s[3] and
(s[2] or s[1])). -/
def Obligations.MapDigitIsComparator : Prop :=
  ∀ x : DigitSymbol,
    mapDigit x = (if x.toNat ≤ 9 then some x else none) ∧
    ((mapDigit x).isSome = !(x.getLsbD 3 && (x.getLsbD 2 || x.getLsbD 1)))

/-- R121: over a LUT whose 2^18 entries all hold values, MAP_WORD maps distinct symbols to distinct tokens exactly when the
entries are pairwise distinct. -/
def Obligations.MapWordInjectiveIffDistinct : Prop :=
  ∀ s : State, s.domainCount.toNat = 2 ^ 18 → DomainOk s →
    ((∀ x y : WordSymbol, mapWord s x = mapWord s y → x = y) ↔
     (∀ i j, i < 2 ^ 18 → j < 2 ^ 18 → i ≠ j → s.domain.read i ≠ s.domain.read j))

/-! ### START (43_accumulator.md) -/

/-- R160: a START of a run whose mode has its domain, over an available source, with a target that is not 0, enters COLLECTING
with the configuration latched and everything of the run cleared; nothing else changes. -/
def Obligations.StartEntersCollecting : Prop :=
  ∀ s : State, s.state ≠ .collecting → (s.cfgMode = .word → s.domainCount.toNat = 2 ^ 18) →
    s.env.rngAvail = true → s.cfgTarget ≠ 0#32 →
    exec .start s = .next { s with
      state := .collecting, rmode := s.cfgMode, rtarget := s.cfgTarget, buf := 0#64, valid := 0#7, accBits := 0#34,
      accCount := 0#32, out := [], drawCount := 0#64, refillCount := 0#64, errCode := 0#3, rej := false }

/-- R160: the word 0x4, in COLLECTING, sets REJ and nothing else; in every other state it latches the run's parameters and
clears everything of the run; STATE and ERR_CODE come from the two checks, the domain's first, and then from the target
(R163); the configuration, the LUT and the inputs are unchanged: no random byte is read. -/
def Obligations.StartWordLatchesClearsAndChecks : Prop :=
  ∀ s : State, ∃ t, performAccess (.command 0x0000000000000004#64) s = .next t ∧
    (if s.state = .collecting then t = { s with rej := true }
     else
       t.rmode = s.cfgMode ∧ t.rtarget = s.cfgTarget ∧ t.buf = 0#64 ∧ t.valid = 0#7 ∧ t.accBits = 0#34 ∧
       t.accCount = 0#32 ∧ t.out = [] ∧ t.drawCount = 0#64 ∧ t.refillCount = 0#64 ∧ t.rej = false ∧
       t.cfgMode = s.cfgMode ∧ t.cfgVerbose = s.cfgVerbose ∧ t.cfgTarget = s.cfgTarget ∧ t.domain = s.domain ∧
       t.domainCount = s.domainCount ∧ t.env = s.env ∧
       (if s.cfgMode = .word ∧ s.domainCount.toNat < 2 ^ 18 then t.state = .error ∧ t.errCode = 4#3
        else if s.env.rngAvail = false then t.state = .error ∧ t.errCode = 1#3
        else if s.cfgTarget = 0#32 then t.state = .done ∧ t.errCode = 0#3
        else t.state = .collecting ∧ t.errCode = 0#3))

/-- R164: a run whose target is 0 is DONE at START, with no tokens, ACC_BITS = 0 and no random bytes read. -/
def Obligations.TargetZeroIsDoneAtStart : Prop :=
  ∀ s : State, s.state ≠ .collecting → (s.cfgMode = .word → s.domainCount.toNat = 2 ^ 18) →
    s.env.rngAvail = true → s.cfgTarget = 0#32 →
    ∃ t, exec .start s = .next t ∧ t.state = .done ∧ t.out = [] ∧ t.accBits = 0#34 ∧ t.refillCount = 0#64 ∧
      t.env = s.env

/-- R225: InsufficientDomain is raised by START exactly when the mode is WORD and the LUT is not full, so never for a DIGIT
run, and by nothing else. -/
def Obligations.InsufficientDomainExactlyWhenShort : Prop :=
  (∀ s t : State, s.state ≠ .collecting → exec .start s = .next t →
    (t.errCode = 4#3 ↔ s.cfgMode = .word ∧ s.domainCount.toNat < 2 ^ 18)) ∧
  (∀ s t : State, step s = .next t → s.errCode ≠ 4#3 → t.errCode = 4#3 →
    actionOf s = .instruction .start ∧ s.state ≠ .collecting)

/-- R223: EntropySourceUnavailable is raised by START exactly when RNG_AVAIL = 0 and the domain check passed, and by nothing
else: a source that stops during a run causes code 2 in the STEP that needs it. -/
def Obligations.SourceUnavailableExactlyWhenClosed : Prop :=
  (∀ s t : State, s.state ≠ .collecting → exec .start s = .next t →
    (t.errCode = 1#3 ↔
      s.env.rngAvail = false ∧ ¬ (s.cfgMode = .word ∧ s.domainCount.toNat < 2 ^ 18))) ∧
  (∀ s t : State, step s = .next t → s.errCode ≠ 1#3 → t.errCode = 1#3 →
    actionOf s = .instruction .start ∧ s.state ≠ .collecting) ∧
  (∀ (s : State) (e : Env), s.state = .collecting → s.valid.toNat < symbolWidth s.rmode →
    rngRead s.env = some (.short, e) → ∃ t, coreTurn s = .next t ∧ t.state = .error ∧ t.errCode = 2#3)

/-! ### The error entry (60_exceptions.md) -/

/-- R229: the error entry writes STATE, ERR_CODE, BUF and VALID, and keeps every counter, RMODE, RTARGET, OUT and all else;
after it no STEP is enabled. Log 4: that a turn of the CORE then passes with the state unchanged is the model's choice. -/
def Obligations.ErrorEntryScrubsAndKeeps : Prop :=
  ∀ (code : BitVec 3) (s : State),
    raiseError code s = { s with state := .error, errCode := code, buf := 0#64, valid := 0#7 } ∧
    stepEnabled (raiseError code s) = false ∧ coreTurn (raiseError code s) = .next (raiseError code s)

/-- R224, R230: a STEP whose refill gets a short answer ends in ERROR with code 2, and leaves every counter and OUT as they
were. -/
def Obligations.ShortAnswerEndsRunPrecisely : Prop :=
  ∀ (s : State) (e : Env), s.state = .collecting →
    s.valid.toNat < symbolWidth s.rmode → rngRead s.env = some (.short, e) →
    coreTurn s = .next { s with state := .error, errCode := 2#3, buf := 0#64, valid := 0#7, env := e }

/-! ### STEP (43_accumulator.md) -/

/-- R102: the random source is read only by a refill: of all actions but a reset and the source's own, only a CORE turn that
draws with VALID below the symbol width changes what the source will answer next. -/
def Obligations.OnlyRefillReadsRandomSource : Prop :=
  ∀ s t : State, step s = .next t → actionOf s ≠ .reset → actionOf s ≠ .input →
    ¬ (actionOf s = .core ∧ s.state = .collecting ∧ s.valid.toNat < symbolWidth s.rmode) →
    t.env.rngQueue = s.env.rngQueue ∧ t.env.rngRest = s.env.rngRest ∧ t.env.rngDraws = s.env.rngDraws ∧
      t.env.rngAbandoned = s.env.rngAbandoned ∧ (t.refillCount = s.refillCount ∨ actionOf s = .instruction .start)

/-- R166, R163: a WORD STEP that draws a symbol emits its LUT entry, adds 18 bits, one token and one draw, and is DONE exactly
when the target is met. -/
def Obligations.WordStepAcceptsToken : Prop :=
  ∀ (s u : State) (x : WordSymbol) (tok : Token), s.state = .collecting → s.rmode = .word →
    takeSymbol 18 s = .symbol x u → x.toNat < s.domainCount.toNat → s.domain.read x.toNat = some tok →
    ∃ t, coreTurn s = .next t ∧
      t.out = s.out ++ [tok] ∧
      t.accBits.toNat = (s.accBits.toNat + 18) % 2 ^ 34 ∧
      t.accCount.toNat = (s.accCount.toNat + 1) % 2 ^ 32 ∧
      t.drawCount.toNat = (s.drawCount.toNat + 1) % 2 ^ 64 ∧
      t.state = (if s.rtarget.toNat ≤ t.accBits.toNat then .done else .collecting) ∧
      t = { u with out := t.out, accBits := t.accBits, accCount := t.accCount, drawCount := t.drawCount,
                   state := t.state }

/-- R166, R163: a DIGIT STEP that draws a symbol of at most 9 emits it, adds 4 bits, one digit and one draw, and is DONE
exactly when the count meets the target. -/
def Obligations.DigitStepAcceptsDigit : Prop :=
  ∀ (s u : State) (x : DigitSymbol), s.state = .collecting → s.rmode = .digit →
    takeSymbol 4 s = .symbol x u → x.toNat ≤ 9 →
    ∃ t, coreTurn s = .next t ∧
      t.out.map BitVec.toNat = s.out.map BitVec.toNat ++ [x.toNat] ∧
      t.accBits.toNat = (s.accBits.toNat + 4) % 2 ^ 34 ∧
      t.accCount.toNat = (s.accCount.toNat + 1) % 2 ^ 32 ∧
      t.drawCount.toNat = (s.drawCount.toNat + 1) % 2 ^ 64 ∧
      t.state = (if s.rtarget.toNat ≤ t.accCount.toNat then .done else .collecting) ∧
      t = { u with out := t.out, accBits := t.accBits, accCount := t.accCount, drawCount := t.drawCount,
                   state := t.state }

/-- R127, R169: a DIGIT STEP that draws 10 to 15 counts the draw, consumes its bits and changes nothing else: the run stays
COLLECTING. -/
def Obligations.DigitStepRejectsSilently : Prop :=
  ∀ (s u : State) (x : DigitSymbol), s.state = .collecting → s.rmode = .digit →
    takeSymbol 4 s = .symbol x u → 9 < x.toNat →
    ∃ t, coreTurn s = .next t ∧
      t.drawCount.toNat = (s.drawCount.toNat + 1) % 2 ^ 64 ∧
      t = { s with buf := u.buf, valid := u.valid, refillCount := u.refillCount, drawCount := t.drawCount, env := u.env }

/-- R171, log 3: while the RNG has not answered the refill a draw needs, and no other action is pending, nothing changes,
however many steps are taken. -/
def Obligations.UnansweredRefillIsStuck : Prop :=
  ∀ (s : State) (k : Nat), s.state = .collecting →
    s.valid.toNat < symbolWidth s.rmode → rngRead s.env = none →
    s.env.resetIn = false → s.env.agenda = [] →
    steps k s = .next s

/-- R166, R258: the CORE takes no STEP in IDLE, DONE or ERROR: nothing of a finished run changes, however many steps are
taken, until an action of another agent. -/
def Obligations.FinishedRunStaysAsItIs : Prop :=
  ∀ (s : State) (k : Nat), s.state ≠ .collecting → s.env.resetIn = false → s.env.agenda = [] →
    steps k s = .next s

/-- R35: OUT is mutated only by appending, one record at a time, except that an accepted START or a reset empties it. -/
def Obligations.OutGrowsByAppending : Prop :=
  ∀ s t : State, step s = .next t →
    t.out = s.out ∨ (actionOf s = .core ∧ ∃ r, t.out = s.out ++ [r]) ∨
    (t.out = [] ∧ (actionOf s = .reset ∨ (actionOf s = .instruction .start ∧ s.state ≠ .collecting)))

/-! ### Reset (70_reset_and_hazards.md) -/

/-- R43: the value of every piece of state after reset, in `State.reset`. -/
def Obligations.ResetStateValues : Prop :=
  State.reset.buf = 0#64 ∧ State.reset.valid = 0#7 ∧ State.reset.state = .idle ∧ State.reset.cfgMode = .word ∧
  State.reset.cfgVerbose = false ∧ State.reset.cfgTarget = 64#32 ∧ State.reset.rmode = .word ∧
  State.reset.rtarget = 64#32 ∧ State.reset.accBits = 0#34 ∧ State.reset.accCount = 0#32 ∧
  State.reset.drawCount = 0#64 ∧ State.reset.refillCount = 0#64 ∧ State.reset.errCode = 0#3 ∧
  State.reset.rej = false ∧ State.reset.domainCount = 0#19 ∧ (∀ i, State.reset.domain.read i = none) ∧
  State.reset.out = []

/-- R250: an asserted RESET is served before every command, READ and STEP, whatever is pending: every register takes its value
of R43. The model's choice (log 6, 7, 8, 9): RESET is then served, the actions to come, RNG_AVAIL and the read port's data
stand as they were, and a determined answer to the request the reset abandons is discarded. -/
def Obligations.ResetTakesPriority : Prop :=
  ∀ s : State, s.env.resetIn = true → ∃ t, step s = .next t ∧
    t = { State.reset with env := t.env } ∧
    t.env.resetIn = false ∧ t.env.agenda = s.env.agenda ∧ t.env.rngAvail = s.env.rngAvail ∧
    t.env.readData = s.env.readData ∧
    (∀ a q, s.env.rngQueue = a :: q →
      t.env.rngQueue = if s.state = .collecting ∧ s.valid.toNat < symbolWidth s.rmode
        then q else a :: q)

/-- R250, log 6: the answer to a request that a reset abandoned before it was answered is discarded when it comes: the RNG's
answers to later requests stand as they were. -/
def Obligations.AbandonedAnswerIsDiscarded : Prop :=
  ∀ (s t : State) (a : RngAnswer) (rest : List Turn), s.env.resetIn = true → s.state = .collecting →
    s.valid.toNat < symbolWidth s.rmode → rngRead s.env = none →
    s.env.rngAbandoned = 0 → s.env.agenda = .rngDelivers a :: rest →
    steps 2 s = .next t →
    t.env.rngQueue = s.env.rngQueue ∧ t.env.rngAbandoned = 0 ∧ t.env.agenda = rest

/-! ### Invariants and whole runs -/

/-- R23: BUF < 2^VALID, with VALID in [0, 64], holds at reset and is kept by every step, from every state that has it. -/
def Obligations.BufferInvariantKept : Prop :=
  (State.reset.valid.toNat ≤ 64 ∧ State.reset.buf.toNat < 2 ^ State.reset.valid.toNat) ∧
  (∀ s t : State, s.valid.toNat ≤ 64 → s.buf.toNat < 2 ^ s.valid.toNat → step s = .next t →
    t.valid.toNat ≤ 64 ∧ t.buf.toNat < 2 ^ t.valid.toNat)

/-- R47: the invariant of the reachable states holds at reset. -/
def Obligations.InvariantHoldsAtReset : Prop :=
  Invariant State.reset

/-- R22, R23, R31, R34, R47, R53, R107, R167, R168, R170, R172: every step keeps the invariant, from every state
that has it. -/
def Obligations.EveryStepKeepsInvariant : Prop :=
  ∀ s t : State, Invariant s → step s = .next t → Invariant t

/-- R53, R54, R105: from every state with the invariant the machine steps: it never reads a LUT entry without a value and
never refuses. Log 3, 4: where no STEP is enabled the step that leaves the state unchanged, or passes the turn, is the model's
choice. -/
def Obligations.InvariantStatesNeverStop : Prop :=
  ∀ s : State, Invariant s → ∃ t, step s = .next t

/-- R172: a run that reaches DONE has met its target, and overshoots by at most 17 bits in WORD mode and not at all in DIGIT
mode or for the target 0. -/
def Obligations.DoneRunMeetsTarget : Prop :=
  ∀ s t : State, Invariant s → step s = .next t → t.state = .done →
    (t.rmode = .word → t.rtarget.toNat ≤ t.accBits.toNat ∧ t.accBits.toNat - t.rtarget.toNat ≤ 17 ∧
      (t.rtarget = 0#32 → t.accBits.toNat = 0)) ∧
    (t.rmode = .digit → t.accCount = t.rtarget)

/-- R167: a WORD run with target b that is DONE has emitted n = ceil(b/18) tokens, with ACC_BITS = 18n and ACC_COUNT =
DRAW_COUNT = n; for b > 0, 18n ≥ b and 18(n-1) < b, and the overshoot is at most 17. -/
def Obligations.WordRunCountsAtDone : Prop :=
  ∀ s t : State, Invariant s → step s = .next t → t.state = .done → t.rmode = .word →
    ∃ n, n = (t.rtarget.toNat + 17) / 18 ∧
      t.out.length = n ∧ t.accBits.toNat = 18 * n ∧ t.accCount.toNat = n ∧ t.drawCount.toNat = n ∧
      (0 < t.rtarget.toNat → t.rtarget.toNat ≤ 18 * n ∧ 18 * (n - 1) < t.rtarget.toNat) ∧
      t.accBits.toNat - t.rtarget.toNat ≤ 17

/-- R168, R107: a WORD run of n draws that is DONE has made ceil(n/3) refills, and ends with the 10 bits and the symbols not
drawn left valid: 46 bits for the default target 64, after two refills. -/
def Obligations.WordRunRefillsAtDone : Prop :=
  ∀ s t : State, Invariant s → step s = .next t → t.state = .done → t.rmode = .word → t.rtarget ≠ 0#32 →
    t.refillCount.toNat = (t.drawCount.toNat + 2) / 3 ∧
      t.valid.toNat = 10 + 18 * (3 * t.refillCount.toNat - t.drawCount.toNat) ∧
      (t.rtarget = 64#32 → t.refillCount.toNat = 2 ∧ t.valid.toNat = 46)

/-- R170: a DIGIT run with target d that is DONE has emitted exactly d records, each in 0..9, with ACC_COUNT = d and ACC_BITS
= 4d. -/
def Obligations.DigitRunCountsAtDone : Prop :=
  ∀ s t : State, Invariant s → step s = .next t → t.state = .done → t.rmode = .digit →
    t.out.length = t.rtarget.toNat ∧ (∀ r ∈ t.out, r.toNat ≤ 9) ∧ t.accCount = t.rtarget ∧
      t.accBits.toNat = 4 * t.rtarget.toNat

/-- R264: a WORD run that no other agent disturbs and whose requests are all answered in full, whatever the bytes, is DONE
within ceil(RTARGET/18) STEPs of its START, counting those already taken. The model's choice: with no action pending each step
is the CORE's (log 3), and the answers are the queue's, which are as many as the STEPs left or are followed by one full answer
for ever (log 5). -/
def Obligations.WordRunTerminates : Prop :=
  ∀ s : State, Invariant s → s.state = .collecting → s.rmode = .word →
    s.env.resetIn = false → s.env.agenda = [] → (∀ a ∈ s.env.rngQueue, a ≠ .short) →
    ((s.rtarget.toNat + 17) / 18 - s.accCount.toNat ≤ s.env.rngQueue.length ∨
      ∃ a, s.env.rngRest = .always a ∧ a ≠ .short) →
    ∃ t, steps ((s.rtarget.toNat + 17) / 18 - s.accCount.toNat) s = .next t ∧ t.state = .done ∧
      t.rej = s.rej ∧ t.errCode = s.errCode

/-- R170, R264 and 93 I6: over a source whose nibbles are all 12, a DIGIT run that no other agent disturbs takes a STEP at
every step, draws each time, and is neither DONE nor in ERROR after any number of them: it emits nothing and stays COLLECTING.
The model's choice: with no action pending each step is the CORE's (log 3), and the source is one answer given for ever (log
5). -/
def Obligations.AllRejectedSourceLivelocks : Prop :=
  ∀ (s : State) (k : Nat), s.state = .collecting → s.rmode = .digit → s.valid = 0#7 →
    s.env.resetIn = false → s.env.agenda = [] → s.env.rngQueue = [] →
    s.env.rngRest = .always (.full 0xCC#8 0xCC#8 0xCC#8 0xCC#8 0xCC#8 0xCC#8 0xCC#8 0xCC#8) →
    ∃ t, steps k s = .next t ∧ t.state = .collecting ∧ stepEnabled t = true ∧ t.out = s.out ∧
      t.accBits = s.accBits ∧ t.accCount = s.accCount ∧ t.drawCount.toNat = (s.drawCount.toNat + k) % 2 ^ 64
end

