-- ==== Sys2Proof/Laws/State.lean ====
section
/-! SUPPORT. What each named update leaves in each field of State: one lemma per field per update, true by rfl. -/

namespace Sys2Proof.Machine

section

variable (s : State)

@[simp] theorem reject_buf : (reject s).buf = s.buf := rfl
@[simp] theorem reject_valid : (reject s).valid = s.valid := rfl
@[simp] theorem reject_state : (reject s).state = s.state := rfl
@[simp] theorem reject_cfgMode : (reject s).cfgMode = s.cfgMode := rfl
@[simp] theorem reject_cfgVerbose : (reject s).cfgVerbose = s.cfgVerbose := rfl
@[simp] theorem reject_cfgTarget : (reject s).cfgTarget = s.cfgTarget := rfl
@[simp] theorem reject_rmode : (reject s).rmode = s.rmode := rfl
@[simp] theorem reject_rtarget : (reject s).rtarget = s.rtarget := rfl
@[simp] theorem reject_accBits : (reject s).accBits = s.accBits := rfl
@[simp] theorem reject_accCount : (reject s).accCount = s.accCount := rfl
@[simp] theorem reject_drawCount : (reject s).drawCount = s.drawCount := rfl
@[simp] theorem reject_refillCount : (reject s).refillCount = s.refillCount := rfl
@[simp] theorem reject_errCode : (reject s).errCode = s.errCode := rfl
@[simp] theorem reject_rej : (reject s).rej = true := rfl
@[simp] theorem reject_domain : (reject s).domain = s.domain := rfl
@[simp] theorem reject_domainCount : (reject s).domainCount = s.domainCount := rfl
@[simp] theorem reject_out : (reject s).out = s.out := rfl
@[simp] theorem reject_env : (reject s).env = s.env := rfl

end

section

variable (code : BitVec 3) (s : State)

@[simp] theorem raiseError_buf : (raiseError code s).buf = 0#64 := rfl
@[simp] theorem raiseError_valid : (raiseError code s).valid = 0#7 := rfl
@[simp] theorem raiseError_state : (raiseError code s).state = .error := rfl
@[simp] theorem raiseError_cfgMode : (raiseError code s).cfgMode = s.cfgMode := rfl
@[simp] theorem raiseError_cfgVerbose : (raiseError code s).cfgVerbose = s.cfgVerbose := rfl
@[simp] theorem raiseError_cfgTarget : (raiseError code s).cfgTarget = s.cfgTarget := rfl
@[simp] theorem raiseError_rmode : (raiseError code s).rmode = s.rmode := rfl
@[simp] theorem raiseError_rtarget : (raiseError code s).rtarget = s.rtarget := rfl
@[simp] theorem raiseError_accBits : (raiseError code s).accBits = s.accBits := rfl
@[simp] theorem raiseError_accCount : (raiseError code s).accCount = s.accCount := rfl
@[simp] theorem raiseError_drawCount : (raiseError code s).drawCount = s.drawCount := rfl
@[simp] theorem raiseError_refillCount : (raiseError code s).refillCount = s.refillCount := rfl
@[simp] theorem raiseError_errCode : (raiseError code s).errCode = code := rfl
@[simp] theorem raiseError_rej : (raiseError code s).rej = s.rej := rfl
@[simp] theorem raiseError_domain : (raiseError code s).domain = s.domain := rfl
@[simp] theorem raiseError_domainCount : (raiseError code s).domainCount = s.domainCount := rfl
@[simp] theorem raiseError_out : (raiseError code s).out = s.out := rfl
@[simp] theorem raiseError_env : (raiseError code s).env = s.env := rfl

end

section

variable (s : State)

@[simp] theorem latchRun_buf : (latchRun s).buf = 0#64 := rfl
@[simp] theorem latchRun_valid : (latchRun s).valid = 0#7 := rfl
@[simp] theorem latchRun_state : (latchRun s).state = s.state := rfl
@[simp] theorem latchRun_cfgMode : (latchRun s).cfgMode = s.cfgMode := rfl
@[simp] theorem latchRun_cfgVerbose : (latchRun s).cfgVerbose = s.cfgVerbose := rfl
@[simp] theorem latchRun_cfgTarget : (latchRun s).cfgTarget = s.cfgTarget := rfl
@[simp] theorem latchRun_rmode : (latchRun s).rmode = s.cfgMode := rfl
@[simp] theorem latchRun_rtarget : (latchRun s).rtarget = s.cfgTarget := rfl
@[simp] theorem latchRun_accBits : (latchRun s).accBits = 0#34 := rfl
@[simp] theorem latchRun_accCount : (latchRun s).accCount = 0#32 := rfl
@[simp] theorem latchRun_drawCount : (latchRun s).drawCount = 0#64 := rfl
@[simp] theorem latchRun_refillCount : (latchRun s).refillCount = 0#64 := rfl
@[simp] theorem latchRun_errCode : (latchRun s).errCode = 0#3 := rfl
@[simp] theorem latchRun_rej : (latchRun s).rej = false := rfl
@[simp] theorem latchRun_domain : (latchRun s).domain = s.domain := rfl
@[simp] theorem latchRun_domainCount : (latchRun s).domainCount = s.domainCount := rfl
@[simp] theorem latchRun_out : (latchRun s).out = [] := rfl
@[simp] theorem latchRun_env : (latchRun s).env = s.env := rfl

end

section

variable (s : State)

@[simp] theorem enterCollecting_buf : (enterCollecting s).buf = s.buf := rfl
@[simp] theorem enterCollecting_valid : (enterCollecting s).valid = s.valid := rfl
@[simp] theorem enterCollecting_state : (enterCollecting s).state = .collecting := rfl
@[simp] theorem enterCollecting_cfgMode : (enterCollecting s).cfgMode = s.cfgMode := rfl
@[simp] theorem enterCollecting_cfgVerbose : (enterCollecting s).cfgVerbose = s.cfgVerbose := rfl
@[simp] theorem enterCollecting_cfgTarget : (enterCollecting s).cfgTarget = s.cfgTarget := rfl
@[simp] theorem enterCollecting_rmode : (enterCollecting s).rmode = s.rmode := rfl
@[simp] theorem enterCollecting_rtarget : (enterCollecting s).rtarget = s.rtarget := rfl
@[simp] theorem enterCollecting_accBits : (enterCollecting s).accBits = s.accBits := rfl
@[simp] theorem enterCollecting_accCount : (enterCollecting s).accCount = s.accCount := rfl
@[simp] theorem enterCollecting_drawCount : (enterCollecting s).drawCount = s.drawCount := rfl
@[simp] theorem enterCollecting_refillCount : (enterCollecting s).refillCount = s.refillCount := rfl
@[simp] theorem enterCollecting_errCode : (enterCollecting s).errCode = s.errCode := rfl
@[simp] theorem enterCollecting_rej : (enterCollecting s).rej = s.rej := rfl
@[simp] theorem enterCollecting_domain : (enterCollecting s).domain = s.domain := rfl
@[simp] theorem enterCollecting_domainCount : (enterCollecting s).domainCount = s.domainCount := rfl
@[simp] theorem enterCollecting_out : (enterCollecting s).out = s.out := rfl
@[simp] theorem enterCollecting_env : (enterCollecting s).env = s.env := rfl

end

section

variable (s : State)

@[simp] theorem countDraw_buf : (countDraw s).buf = s.buf := rfl
@[simp] theorem countDraw_valid : (countDraw s).valid = s.valid := rfl
@[simp] theorem countDraw_state : (countDraw s).state = s.state := rfl
@[simp] theorem countDraw_cfgMode : (countDraw s).cfgMode = s.cfgMode := rfl
@[simp] theorem countDraw_cfgVerbose : (countDraw s).cfgVerbose = s.cfgVerbose := rfl
@[simp] theorem countDraw_cfgTarget : (countDraw s).cfgTarget = s.cfgTarget := rfl
@[simp] theorem countDraw_rmode : (countDraw s).rmode = s.rmode := rfl
@[simp] theorem countDraw_rtarget : (countDraw s).rtarget = s.rtarget := rfl
@[simp] theorem countDraw_accBits : (countDraw s).accBits = s.accBits := rfl
@[simp] theorem countDraw_accCount : (countDraw s).accCount = s.accCount := rfl
@[simp] theorem countDraw_drawCount : (countDraw s).drawCount = s.drawCount + 1#64 := rfl
@[simp] theorem countDraw_refillCount : (countDraw s).refillCount = s.refillCount := rfl
@[simp] theorem countDraw_errCode : (countDraw s).errCode = s.errCode := rfl
@[simp] theorem countDraw_rej : (countDraw s).rej = s.rej := rfl
@[simp] theorem countDraw_domain : (countDraw s).domain = s.domain := rfl
@[simp] theorem countDraw_domainCount : (countDraw s).domainCount = s.domainCount := rfl
@[simp] theorem countDraw_out : (countDraw s).out = s.out := rfl
@[simp] theorem countDraw_env : (countDraw s).env = s.env := rfl

end

section

variable (rec : Token) (w : Nat) (s : State)

@[simp] theorem acceptSymbol_buf : (acceptSymbol rec w s).buf = s.buf := rfl
@[simp] theorem acceptSymbol_valid : (acceptSymbol rec w s).valid = s.valid := rfl
@[simp] theorem acceptSymbol_state : (acceptSymbol rec w s).state = s.state := rfl
@[simp] theorem acceptSymbol_cfgMode : (acceptSymbol rec w s).cfgMode = s.cfgMode := rfl
@[simp] theorem acceptSymbol_cfgVerbose : (acceptSymbol rec w s).cfgVerbose = s.cfgVerbose := rfl
@[simp] theorem acceptSymbol_cfgTarget : (acceptSymbol rec w s).cfgTarget = s.cfgTarget := rfl
@[simp] theorem acceptSymbol_rmode : (acceptSymbol rec w s).rmode = s.rmode := rfl
@[simp] theorem acceptSymbol_rtarget : (acceptSymbol rec w s).rtarget = s.rtarget := rfl
@[simp] theorem acceptSymbol_accBits : (acceptSymbol rec w s).accBits = s.accBits + BitVec.ofNat 34 w := rfl
@[simp] theorem acceptSymbol_accCount : (acceptSymbol rec w s).accCount = s.accCount + 1#32 := rfl
@[simp] theorem acceptSymbol_drawCount : (acceptSymbol rec w s).drawCount = s.drawCount := rfl
@[simp] theorem acceptSymbol_refillCount : (acceptSymbol rec w s).refillCount = s.refillCount := rfl
@[simp] theorem acceptSymbol_errCode : (acceptSymbol rec w s).errCode = s.errCode := rfl
@[simp] theorem acceptSymbol_rej : (acceptSymbol rec w s).rej = s.rej := rfl
@[simp] theorem acceptSymbol_domain : (acceptSymbol rec w s).domain = s.domain := rfl
@[simp] theorem acceptSymbol_domainCount : (acceptSymbol rec w s).domainCount = s.domainCount := rfl
@[simp] theorem acceptSymbol_out : (acceptSymbol rec w s).out = s.out ++ [rec] := rfl
@[simp] theorem acceptSymbol_env : (acceptSymbol rec w s).env = s.env := rfl

end

section

variable (v : BitVec 64) (s : State)

@[simp] theorem loadBuffer_buf : (loadBuffer v s).buf = v := rfl
@[simp] theorem loadBuffer_valid : (loadBuffer v s).valid = 64#7 := rfl
@[simp] theorem loadBuffer_state : (loadBuffer v s).state = s.state := rfl
@[simp] theorem loadBuffer_cfgMode : (loadBuffer v s).cfgMode = s.cfgMode := rfl
@[simp] theorem loadBuffer_cfgVerbose : (loadBuffer v s).cfgVerbose = s.cfgVerbose := rfl
@[simp] theorem loadBuffer_cfgTarget : (loadBuffer v s).cfgTarget = s.cfgTarget := rfl
@[simp] theorem loadBuffer_rmode : (loadBuffer v s).rmode = s.rmode := rfl
@[simp] theorem loadBuffer_rtarget : (loadBuffer v s).rtarget = s.rtarget := rfl
@[simp] theorem loadBuffer_accBits : (loadBuffer v s).accBits = s.accBits := rfl
@[simp] theorem loadBuffer_accCount : (loadBuffer v s).accCount = s.accCount := rfl
@[simp] theorem loadBuffer_drawCount : (loadBuffer v s).drawCount = s.drawCount := rfl
@[simp] theorem loadBuffer_refillCount : (loadBuffer v s).refillCount = s.refillCount + 1#64 := rfl
@[simp] theorem loadBuffer_errCode : (loadBuffer v s).errCode = s.errCode := rfl
@[simp] theorem loadBuffer_rej : (loadBuffer v s).rej = s.rej := rfl
@[simp] theorem loadBuffer_domain : (loadBuffer v s).domain = s.domain := rfl
@[simp] theorem loadBuffer_domainCount : (loadBuffer v s).domainCount = s.domainCount := rfl
@[simp] theorem loadBuffer_out : (loadBuffer v s).out = s.out := rfl
@[simp] theorem loadBuffer_env : (loadBuffer v s).env = s.env := rfl

end

section

variable (w : Nat) (s : State)

@[simp] theorem shiftOut_buf : (shiftOut w s).buf = s.buf >>> w := rfl
@[simp] theorem shiftOut_valid : (shiftOut w s).valid = s.valid - BitVec.ofNat 7 w := rfl
@[simp] theorem shiftOut_state : (shiftOut w s).state = s.state := rfl
@[simp] theorem shiftOut_cfgMode : (shiftOut w s).cfgMode = s.cfgMode := rfl
@[simp] theorem shiftOut_cfgVerbose : (shiftOut w s).cfgVerbose = s.cfgVerbose := rfl
@[simp] theorem shiftOut_cfgTarget : (shiftOut w s).cfgTarget = s.cfgTarget := rfl
@[simp] theorem shiftOut_rmode : (shiftOut w s).rmode = s.rmode := rfl
@[simp] theorem shiftOut_rtarget : (shiftOut w s).rtarget = s.rtarget := rfl
@[simp] theorem shiftOut_accBits : (shiftOut w s).accBits = s.accBits := rfl
@[simp] theorem shiftOut_accCount : (shiftOut w s).accCount = s.accCount := rfl
@[simp] theorem shiftOut_drawCount : (shiftOut w s).drawCount = s.drawCount := rfl
@[simp] theorem shiftOut_refillCount : (shiftOut w s).refillCount = s.refillCount := rfl
@[simp] theorem shiftOut_errCode : (shiftOut w s).errCode = s.errCode := rfl
@[simp] theorem shiftOut_rej : (shiftOut w s).rej = s.rej := rfl
@[simp] theorem shiftOut_domain : (shiftOut w s).domain = s.domain := rfl
@[simp] theorem shiftOut_domainCount : (shiftOut w s).domainCount = s.domainCount := rfl
@[simp] theorem shiftOut_out : (shiftOut w s).out = s.out := rfl
@[simp] theorem shiftOut_env : (shiftOut w s).env = s.env := rfl

end

section

variable (e : Env) (s : State)

@[simp] theorem withEnv_buf : (withEnv e s).buf = s.buf := rfl
@[simp] theorem withEnv_valid : (withEnv e s).valid = s.valid := rfl
@[simp] theorem withEnv_state : (withEnv e s).state = s.state := rfl
@[simp] theorem withEnv_cfgMode : (withEnv e s).cfgMode = s.cfgMode := rfl
@[simp] theorem withEnv_cfgVerbose : (withEnv e s).cfgVerbose = s.cfgVerbose := rfl
@[simp] theorem withEnv_cfgTarget : (withEnv e s).cfgTarget = s.cfgTarget := rfl
@[simp] theorem withEnv_rmode : (withEnv e s).rmode = s.rmode := rfl
@[simp] theorem withEnv_rtarget : (withEnv e s).rtarget = s.rtarget := rfl
@[simp] theorem withEnv_accBits : (withEnv e s).accBits = s.accBits := rfl
@[simp] theorem withEnv_accCount : (withEnv e s).accCount = s.accCount := rfl
@[simp] theorem withEnv_drawCount : (withEnv e s).drawCount = s.drawCount := rfl
@[simp] theorem withEnv_refillCount : (withEnv e s).refillCount = s.refillCount := rfl
@[simp] theorem withEnv_errCode : (withEnv e s).errCode = s.errCode := rfl
@[simp] theorem withEnv_rej : (withEnv e s).rej = s.rej := rfl
@[simp] theorem withEnv_domain : (withEnv e s).domain = s.domain := rfl
@[simp] theorem withEnv_domainCount : (withEnv e s).domainCount = s.domainCount := rfl
@[simp] theorem withEnv_out : (withEnv e s).out = s.out := rfl
@[simp] theorem withEnv_env : (withEnv e s).env = e := rfl

end

section

variable (l : List Turn) (s : State)

@[simp] theorem withAgenda_buf : (withAgenda l s).buf = s.buf := rfl
@[simp] theorem withAgenda_valid : (withAgenda l s).valid = s.valid := rfl
@[simp] theorem withAgenda_state : (withAgenda l s).state = s.state := rfl
@[simp] theorem withAgenda_cfgMode : (withAgenda l s).cfgMode = s.cfgMode := rfl
@[simp] theorem withAgenda_cfgVerbose : (withAgenda l s).cfgVerbose = s.cfgVerbose := rfl
@[simp] theorem withAgenda_cfgTarget : (withAgenda l s).cfgTarget = s.cfgTarget := rfl
@[simp] theorem withAgenda_rmode : (withAgenda l s).rmode = s.rmode := rfl
@[simp] theorem withAgenda_rtarget : (withAgenda l s).rtarget = s.rtarget := rfl
@[simp] theorem withAgenda_accBits : (withAgenda l s).accBits = s.accBits := rfl
@[simp] theorem withAgenda_accCount : (withAgenda l s).accCount = s.accCount := rfl
@[simp] theorem withAgenda_drawCount : (withAgenda l s).drawCount = s.drawCount := rfl
@[simp] theorem withAgenda_refillCount : (withAgenda l s).refillCount = s.refillCount := rfl
@[simp] theorem withAgenda_errCode : (withAgenda l s).errCode = s.errCode := rfl
@[simp] theorem withAgenda_rej : (withAgenda l s).rej = s.rej := rfl
@[simp] theorem withAgenda_domain : (withAgenda l s).domain = s.domain := rfl
@[simp] theorem withAgenda_domainCount : (withAgenda l s).domainCount = s.domainCount := rfl
@[simp] theorem withAgenda_out : (withAgenda l s).out = s.out := rfl
@[simp] theorem withAgenda_env : (withAgenda l s).env = { s.env with agenda := l } := rfl

end

section

variable (v : Token) (s : State)

@[simp] theorem lutAppend_buf : (lutAppend v s).buf = s.buf := rfl
@[simp] theorem lutAppend_valid : (lutAppend v s).valid = s.valid := rfl
@[simp] theorem lutAppend_state : (lutAppend v s).state = s.state := rfl
@[simp] theorem lutAppend_cfgMode : (lutAppend v s).cfgMode = s.cfgMode := rfl
@[simp] theorem lutAppend_cfgVerbose : (lutAppend v s).cfgVerbose = s.cfgVerbose := rfl
@[simp] theorem lutAppend_cfgTarget : (lutAppend v s).cfgTarget = s.cfgTarget := rfl
@[simp] theorem lutAppend_rmode : (lutAppend v s).rmode = s.rmode := rfl
@[simp] theorem lutAppend_rtarget : (lutAppend v s).rtarget = s.rtarget := rfl
@[simp] theorem lutAppend_accBits : (lutAppend v s).accBits = s.accBits := rfl
@[simp] theorem lutAppend_accCount : (lutAppend v s).accCount = s.accCount := rfl
@[simp] theorem lutAppend_drawCount : (lutAppend v s).drawCount = s.drawCount := rfl
@[simp] theorem lutAppend_refillCount : (lutAppend v s).refillCount = s.refillCount := rfl
@[simp] theorem lutAppend_errCode : (lutAppend v s).errCode = s.errCode := rfl
@[simp] theorem lutAppend_rej : (lutAppend v s).rej = s.rej := rfl
@[simp] theorem lutAppend_domain : (lutAppend v s).domain = s.domain.write s.domainCount.toNat v := rfl
@[simp] theorem lutAppend_domainCount : (lutAppend v s).domainCount = s.domainCount + 1#19 := rfl
@[simp] theorem lutAppend_out : (lutAppend v s).out = s.out := rfl
@[simp] theorem lutAppend_env : (lutAppend v s).env = s.env := rfl

end

section

variable (m : Mode) (v : Bool) (t : Target) (s : State)

@[simp] theorem setConfig_buf : (setConfig m v t s).buf = s.buf := rfl
@[simp] theorem setConfig_valid : (setConfig m v t s).valid = s.valid := rfl
@[simp] theorem setConfig_state : (setConfig m v t s).state = s.state := rfl
@[simp] theorem setConfig_cfgMode : (setConfig m v t s).cfgMode = m := rfl
@[simp] theorem setConfig_cfgVerbose : (setConfig m v t s).cfgVerbose = v := rfl
@[simp] theorem setConfig_cfgTarget : (setConfig m v t s).cfgTarget = t := rfl
@[simp] theorem setConfig_rmode : (setConfig m v t s).rmode = s.rmode := rfl
@[simp] theorem setConfig_rtarget : (setConfig m v t s).rtarget = s.rtarget := rfl
@[simp] theorem setConfig_accBits : (setConfig m v t s).accBits = s.accBits := rfl
@[simp] theorem setConfig_accCount : (setConfig m v t s).accCount = s.accCount := rfl
@[simp] theorem setConfig_drawCount : (setConfig m v t s).drawCount = s.drawCount := rfl
@[simp] theorem setConfig_refillCount : (setConfig m v t s).refillCount = s.refillCount := rfl
@[simp] theorem setConfig_errCode : (setConfig m v t s).errCode = s.errCode := rfl
@[simp] theorem setConfig_rej : (setConfig m v t s).rej = s.rej := rfl
@[simp] theorem setConfig_domain : (setConfig m v t s).domain = s.domain := rfl
@[simp] theorem setConfig_domainCount : (setConfig m v t s).domainCount = s.domainCount := rfl
@[simp] theorem setConfig_out : (setConfig m v t s).out = s.out := rfl
@[simp] theorem setConfig_env : (setConfig m v t s).env = s.env := rfl

end

section

variable (s : State)

@[simp] theorem clearDomain_buf : (clearDomain s).buf = s.buf := rfl
@[simp] theorem clearDomain_valid : (clearDomain s).valid = s.valid := rfl
@[simp] theorem clearDomain_state : (clearDomain s).state = s.state := rfl
@[simp] theorem clearDomain_cfgMode : (clearDomain s).cfgMode = s.cfgMode := rfl
@[simp] theorem clearDomain_cfgVerbose : (clearDomain s).cfgVerbose = s.cfgVerbose := rfl
@[simp] theorem clearDomain_cfgTarget : (clearDomain s).cfgTarget = s.cfgTarget := rfl
@[simp] theorem clearDomain_rmode : (clearDomain s).rmode = s.rmode := rfl
@[simp] theorem clearDomain_rtarget : (clearDomain s).rtarget = s.rtarget := rfl
@[simp] theorem clearDomain_accBits : (clearDomain s).accBits = s.accBits := rfl
@[simp] theorem clearDomain_accCount : (clearDomain s).accCount = s.accCount := rfl
@[simp] theorem clearDomain_drawCount : (clearDomain s).drawCount = s.drawCount := rfl
@[simp] theorem clearDomain_refillCount : (clearDomain s).refillCount = s.refillCount := rfl
@[simp] theorem clearDomain_errCode : (clearDomain s).errCode = s.errCode := rfl
@[simp] theorem clearDomain_rej : (clearDomain s).rej = s.rej := rfl
@[simp] theorem clearDomain_domain : (clearDomain s).domain = s.domain := rfl
@[simp] theorem clearDomain_domainCount : (clearDomain s).domainCount = 0#19 := rfl
@[simp] theorem clearDomain_out : (clearDomain s).out = s.out := rfl
@[simp] theorem clearDomain_env : (clearDomain s).env = s.env := rfl

end

section

variable (e : Env)

@[simp] theorem resetWith_buf : (State.resetWith e).buf = 0#64 := rfl
@[simp] theorem resetWith_valid : (State.resetWith e).valid = 0#7 := rfl
@[simp] theorem resetWith_state : (State.resetWith e).state = .idle := rfl
@[simp] theorem resetWith_cfgMode : (State.resetWith e).cfgMode = .word := rfl
@[simp] theorem resetWith_cfgVerbose : (State.resetWith e).cfgVerbose = false := rfl
@[simp] theorem resetWith_cfgTarget : (State.resetWith e).cfgTarget = 64#32 := rfl
@[simp] theorem resetWith_rmode : (State.resetWith e).rmode = .word := rfl
@[simp] theorem resetWith_rtarget : (State.resetWith e).rtarget = 64#32 := rfl
@[simp] theorem resetWith_accBits : (State.resetWith e).accBits = 0#34 := rfl
@[simp] theorem resetWith_accCount : (State.resetWith e).accCount = 0#32 := rfl
@[simp] theorem resetWith_drawCount : (State.resetWith e).drawCount = 0#64 := rfl
@[simp] theorem resetWith_refillCount : (State.resetWith e).refillCount = 0#64 := rfl
@[simp] theorem resetWith_errCode : (State.resetWith e).errCode = 0#3 := rfl
@[simp] theorem resetWith_rej : (State.resetWith e).rej = false := rfl
@[simp] theorem resetWith_domain : (State.resetWith e).domain = [] := rfl
@[simp] theorem resetWith_domainCount : (State.resetWith e).domainCount = 0#19 := rfl
@[simp] theorem resetWith_out : (State.resetWith e).out = [] := rfl
@[simp] theorem resetWith_env : (State.resetWith e).env = e := rfl

end

section

variable (s : State)

@[simp] theorem terminal_buf : (terminal s).buf = s.buf := by unfold terminal; split <;> rfl
@[simp] theorem terminal_valid : (terminal s).valid = s.valid := by unfold terminal; split <;> rfl
@[simp] theorem terminal_cfgMode : (terminal s).cfgMode = s.cfgMode := by unfold terminal; split <;> rfl
@[simp] theorem terminal_cfgVerbose : (terminal s).cfgVerbose = s.cfgVerbose := by unfold terminal; split <;> rfl
@[simp] theorem terminal_cfgTarget : (terminal s).cfgTarget = s.cfgTarget := by unfold terminal; split <;> rfl
@[simp] theorem terminal_rmode : (terminal s).rmode = s.rmode := by unfold terminal; split <;> rfl
@[simp] theorem terminal_rtarget : (terminal s).rtarget = s.rtarget := by unfold terminal; split <;> rfl
@[simp] theorem terminal_accBits : (terminal s).accBits = s.accBits := by unfold terminal; split <;> rfl
@[simp] theorem terminal_accCount : (terminal s).accCount = s.accCount := by unfold terminal; split <;> rfl
@[simp] theorem terminal_drawCount : (terminal s).drawCount = s.drawCount := by unfold terminal; split <;> rfl
@[simp] theorem terminal_refillCount : (terminal s).refillCount = s.refillCount := by unfold terminal; split <;> rfl
@[simp] theorem terminal_errCode : (terminal s).errCode = s.errCode := by unfold terminal; split <;> rfl
@[simp] theorem terminal_rej : (terminal s).rej = s.rej := by unfold terminal; split <;> rfl
@[simp] theorem terminal_domain : (terminal s).domain = s.domain := by unfold terminal; split <;> rfl
@[simp] theorem terminal_domainCount : (terminal s).domainCount = s.domainCount := by unfold terminal; split <;> rfl
@[simp] theorem terminal_out : (terminal s).out = s.out := by unfold terminal; split <;> rfl
@[simp] theorem terminal_env : (terminal s).env = s.env := by unfold terminal; split <;> rfl

/-- TERMINAL's one effect (43_accumulator.md R163). -/
theorem terminal_state : (terminal s).state = if targetMet s then .done else s.state := by unfold terminal; split <;> rfl

end

end Sys2Proof.Machine
end

