-- ==== Sys2Proof/Laws/Decode.lean ====
section
/-! SUPPORT. The fields of a command word, bit by bit, and that they determine it (30_encoding.md R71); a refill's bytes as a
number (20_memory.md R56). -/

namespace Sys2Proof

@[simp] theorem Mode.ofBit_bit (m : Mode) : Mode.ofBit m.bit = m := by cases m <;> rfl

@[simp] theorem Mode.bit_ofBit (b : Bool) : (Mode.ofBit b).bit = b := by cases b <;> rfl

/-- Every bit of a command word built from its fields. -/
theorem commandWord_getLsbD (imm : BitVec 32) (d v m : Bool) (op : BitVec 4) (i : Nat) :
    (commandWord imm d v m op).getLsbD i =
      if i < 4 then op.getLsbD i
      else if i = 4 then m
      else if i = 5 then v
      else if i = 6 then d
      else if i < 32 then false
      else imm.getLsbD (i - 32) := by
  show BitVec.getLsbD (w := 32 + 25 + 1 + 1 + 1 + 4)
    (imm ++ 0#25 ++ BitVec.ofBool d ++ BitVec.ofBool v ++ BitVec.ofBool m ++ op) i = _
  simp only [BitVec.getLsbD_append, BitVec.getLsbD_ofBool, BitVec.getLsbD_zero]
  repeat' split
  all_goals first | rfl | omega | skip
  all_goals simp_all

section

variable (imm : BitVec 32) (d v m : Bool) (op : BitVec 4)

@[simp] theorem opField_commandWord : opField (commandWord imm d v m op) = op := by
  apply BitVec.eq_of_getLsbD_eq
  intro i hi
  simp [opField, commandWord_getLsbD, hi]

@[simp] theorem immField_commandWord : immField (commandWord imm d v m op) = imm := by
  apply BitVec.eq_of_getLsbD_eq
  intro i hi
  have h1 : ¬ 32 + i < 4 := by omega
  have h2 : ¬ 32 + i = 4 := by omega
  have h3 : ¬ 32 + i = 5 := by omega
  have h4 : ¬ 32 + i = 6 := by omega
  simp [immField, commandWord_getLsbD, hi, h1, h2, h3, h4]

@[simp] theorem commandWord_bit4 : (commandWord imm d v m op)[4] = m := by
  rw [← BitVec.getLsbD_eq_getElem, commandWord_getLsbD]; rfl

@[simp] theorem commandWord_bit5 : (commandWord imm d v m op)[5] = v := by
  rw [← BitVec.getLsbD_eq_getElem, commandWord_getLsbD]; rfl

@[simp] theorem commandWord_bit6 : (commandWord imm d v m op)[6] = d := by
  rw [← BitVec.getLsbD_eq_getElem, commandWord_getLsbD]; rfl

/-- The field Z of an encoded word is zero. -/
@[simp] theorem zField_commandWord : (commandWord imm d v m op).extractLsb' 7 25 = 0#25 := by
  apply BitVec.eq_of_getLsbD_eq
  intro i hi
  have h1 : ¬ 7 + i < 4 := by omega
  have h2 : ¬ 7 + i = 4 := by omega
  have h3 : ¬ 7 + i = 5 := by omega
  have h4 : ¬ 7 + i = 6 := by omega
  have h5 : 7 + i < 32 := by omega
  simp [commandWord_getLsbD, h1, h2, h3, h4, h5]

/-- Bits [31:4] of an encoded word whose flags are clear are zero. -/
@[simp] theorem lowBits_commandWord : (commandWord imm false false false op).extractLsb' 4 28 = 0#28 := by
  apply BitVec.eq_of_getLsbD_eq
  intro i hi
  have h1 : ¬ 4 + i < 4 := by omega
  have h5 : 4 + i < 32 := by omega
  simp [commandWord_getLsbD, h1, h5]

/-- Bits [63:4] of an encoded word with nothing but an opcode are zero. -/
@[simp] theorem highBits_commandWord : (commandWord 0#32 false false false op).extractLsb' 4 60 = 0#60 := by
  apply BitVec.eq_of_getLsbD_eq
  intro i hi
  have h1 : ¬ 4 + i < 4 := by omega
  simp [commandWord_getLsbD, h1]

end

/-- A word whose field Z is zero is the one its fields build. -/
theorem word_eq_of_fields (w : Word64) (hz : w.extractLsb' 7 25 = 0#25) :
    w = commandWord (immField w) (w.getLsbD 6) (w.getLsbD 5) (w.getLsbD 4) (opField w) := by
  apply BitVec.eq_of_getLsbD_eq
  intro i hi
  rw [commandWord_getLsbD]
  split
  · simp [opField, *]
  · split
    · simp [*]
    · split
      · simp [*]
      · split
        · simp [*]
        · split
          · have := congrArg (fun x => BitVec.getLsbD x (i - 7)) hz
            simp only [BitVec.getLsbD_extractLsb', BitVec.getLsbD_zero] at this
            have h1 : i - 7 < 25 := by omega
            have h2 : 7 + (i - 7) = i := by omega
            simpa [h1, h2] using this
          · have h1 : i - 32 < 32 := by omega
            have h2 : 32 + (i - 32) = i := by omega
            simp [immField, h1, h2]

/-- A concatenation as a number. -/
theorem toNat_append_eq {m n : Nat} (x : BitVec m) (y : BitVec n) :
    (x ++ y).toNat = x.toNat * 2 ^ n + y.toNat := by
  rw [BitVec.toNat_append, ← Nat.shiftLeft_add_eq_or_of_lt y.isLt, Nat.shiftLeft_eq]

/-- The eight bytes of a refill as a number (20_memory.md R56). -/
theorem Machine.littleEndianWord_toNat (b0 b1 b2 b3 b4 b5 b6 b7 : Byte) :
    (Machine.littleEndianWord b0 b1 b2 b3 b4 b5 b6 b7).toNat =
      b0.toNat + 2 ^ 8 * b1.toNat + 2 ^ 16 * b2.toNat + 2 ^ 24 * b3.toNat + 2 ^ 32 * b4.toNat + 2 ^ 40 * b5.toNat +
        2 ^ 48 * b6.toNat + 2 ^ 56 * b7.toNat := by
  have h : (Machine.littleEndianWord b0 b1 b2 b3 b4 b5 b6 b7).toNat =
      BitVec.toNat (w := 8 + 8 + 8 + 8 + 8 + 8 + 8 + 8) (b7 ++ b6 ++ b5 ++ b4 ++ b3 ++ b2 ++ b1 ++ b0) := rfl
  rw [h]
  simp only [toNat_append_eq]
  omega

end Sys2Proof
end

