-- ==== Sys2Proof/Laws/Memory.lean ====
section
/-! SUPPORT. The LUT's memory: a read after a write, the entries a write leaves alone, and the canonical form every write
keeps (20_memory.md R51, R52). -/

namespace Sys2Proof.Machine

@[simp] theorem Memory.read_nil (i : Nat) : Memory.read [] i = none := rfl

@[simp] theorem Memory.read_cons (k : Nat) (v : Token) (rest : Memory) (i : Nat) :
    Memory.read ((k, v) :: rest) i = if i = k then some v else Memory.read rest i := rfl

/-- A read of the entry written gives the value written. -/
@[simp] theorem Memory.read_write_same (l : Memory) (i : Nat) (v : Token) : (l.write i v).read i = some v := by
  induction l with
  | nil => simp [Memory.write]
  | cons c rest ih =>
    obtain ⟨k, x⟩ := c
    simp only [Memory.write]
    split
    · simp
    · split
      · simp
      · simp_all

/-- A write leaves every other entry as it was. -/
theorem Memory.read_write_other (l : Memory) {i j : Nat} (v : Token) (h : j ≠ i) :
    (l.write i v).read j = l.read j := by
  induction l with
  | nil => simp [Memory.write, h]
  | cons c rest ih =>
    obtain ⟨k, x⟩ := c
    simp only [Memory.write]
    split
    · simp [h]
    · split
      · subst_vars; simp [h]
      · simp [ih]

/-- The indices after a write are the written one and those before. -/
theorem Memory.mem_write (l : Memory) (i : Nat) (v : Token) (c : Nat × Token) (hc : c ∈ l.write i v) :
    c = (i, v) ∨ c ∈ l := by
  induction l with
  | nil => simpa [Memory.write] using hc
  | cons d rest ih =>
    unfold Memory.write at hc
    split at hc
    · simpa using hc
    · split at hc
      · rcases List.mem_cons.1 hc with h | h <;> simp [h]
      · rcases List.mem_cons.1 hc with h | h
        · simp [h]
        · rcases ih h with h | h <;> simp [h]

/-- A write of an entry that exists keeps the canonical form. -/
theorem Memory.wf_write (l : Memory) (i : Nat) (v : Token) (hi : i < Config.wordCount) (h : l.wf) :
    (l.write i v).wf := by
  refine ⟨?_, fun c hc => ?_⟩
  · have hp := h.1
    clear h
    induction l with
    | nil => simp [Memory.write]
    | cons d rest ih =>
      obtain ⟨hd, hrest⟩ := List.pairwise_cons.1 hp
      unfold Memory.write
      split
      · refine List.pairwise_cons.2 ⟨fun c hc => ?_, hp⟩
        rcases List.mem_cons.1 hc with rfl | hc
        · assumption
        · exact Nat.lt_trans ‹_› (hd c hc)
      · split
        · subst_vars
          exact List.pairwise_cons.2 ⟨hd, hrest⟩
        · refine List.pairwise_cons.2 ⟨fun c hc => ?_, ih hrest⟩
          rcases Memory.mem_write rest i v c hc with rfl | hc
          · simp only; omega
          · exact hd c hc
  · rcases Memory.mem_write l i v c hc with rfl | hc
    · exact hi
    · exact h.2 c hc

/-- The memory at reset is in canonical form. -/
theorem Memory.wf_nil : Memory.wf [] := by simp [Memory.wf]

/-- What a list that stores the values `f 0, f 1, ...` at rising indices from `k` reads as. -/
theorem Memory.read_map_range' (f : Nat → Token) (n k i : Nat) :
    Memory.read ((List.range' k n).map fun j => (j, f j)) i = if k ≤ i ∧ i < k + n then some (f i) else none := by
  induction n generalizing k with
  | zero => simp
  | succ n ih =>
    rw [List.range'_succ, List.map_cons, Memory.read_cons, ih]
    split
    · subst_vars; simp
    · by_cases h : k + 1 ≤ i ∧ i < k + 1 + n
      · rw [if_pos h, if_pos (by omega)]
      · rw [if_neg h, if_neg (by omega)]

/-- Such a list is in canonical form when its indices exist. -/
theorem Memory.wf_map_range' (f : Nat → Token) (n k : Nat) (h : k + n ≤ Config.wordCount) :
    Memory.wf ((List.range' k n).map fun j => (j, f j)) := by
  refine ⟨?_, fun c hc => ?_⟩
  · rw [List.pairwise_map]
    exact List.pairwise_lt_range'
  · obtain ⟨j, hj, rfl⟩ := List.mem_map.1 hc
    obtain ⟨m, hm, rfl⟩ := List.mem_range'.1 hj
    simp only [Config.wordCount] at h ⊢
    omega

end Sys2Proof.Machine
end

