-- ==== Sys2Proof/Laws/Ops.lean ====
section
/-! SUPPORT. What the shared operations can do: the random source, TERMINAL, REFILL and TAKE_SYMBOL. -/

namespace Sys2Proof.Machine

/-- RngRead changes the RNG's own inputs alone. -/
theorem rngRead_frame {e e' : Env} {a : RngAnswer} (h : rngRead e = some (a, e')) :
    e'.agenda = e.agenda ∧ e'.resetIn = e.resetIn ∧ e'.readData = e.readData ∧ e'.rngAvail = e.rngAvail ∧
      e'.rngRest = e.rngRest ∧ e'.rngAbandoned = e.rngAbandoned := by
  unfold rngRead at h
  split at h
  · cases h; simp
  · split at h
    · cases h
    · cases h; simp
    · cases hf : Config.freeRngAnswer e.rngDraws with
      | none => simp [hf] at h
      | some b => simp only [hf, Option.map_some, Option.some.injEq, Prod.mk.injEq] at h; rw [← h.2]; simp

/-- A determined answer is read first, and leaves the queue. -/
theorem rngRead_queue (e : Env) (a : RngAnswer) (q : List RngAnswer) (h : e.rngQueue = a :: q) :
    rngRead e = some (a, { e with rngQueue := q }) := by
  unfold rngRead; rw [h]

/-- A silent source with no determined answer does not answer. -/
theorem rngRead_silent (e : Env) (hq : e.rngQueue = []) (hr : e.rngRest = .silent) : rngRead e = none := by
  unfold rngRead; rw [hq, hr]

/-- A source that gives one answer for ever gives it. -/
theorem rngRead_always (e : Env) (a : RngAnswer) (hq : e.rngQueue = []) (hr : e.rngRest = .always a) :
    rngRead e = some (a, e) := by
  unfold rngRead; rw [hq, hr]

/-- TERMINAL's condition in WORD mode, on numbers (43_accumulator.md R163). -/
theorem targetMet_word {s : State} (h : s.rmode = .word) :
    targetMet s = true ↔ s.rtarget.toNat ≤ s.accBits.toNat := by
  have := s.rtarget.isLt
  simp [targetMet, h, BitVec.le_def]
  omega

/-- TERMINAL's condition in DIGIT mode, on numbers (43_accumulator.md R163). -/
theorem targetMet_digit {s : State} (h : s.rmode = .digit) :
    targetMet s = true ↔ s.rtarget.toNat ≤ s.accCount.toNat := by
  simp [targetMet, h, BitVec.le_def]

/-- `u` is `s` with at least `w` valid bits in BUF: `s` itself, or `s` refilled with a full answer (40_bit_buffer.md R101,
R104). -/
inductive Refilled (w : Nat) (s : State) : State → Prop
  | enough : w ≤ s.valid.toNat → Refilled w s s
  | loaded (b0 b1 b2 b3 b4 b5 b6 b7 : Byte) (e : Env) : s.valid.toNat < w →
      rngRead s.env = some (.full b0 b1 b2 b3 b4 b5 b6 b7, e) →
      Refilled w s (loadBuffer (littleEndianWord b0 b1 b2 b3 b4 b5 b6 b7) (withEnv e s))

/-- With enough valid bits TAKE_SYMBOL draws without a refill. -/
theorem takeSymbol_enough {w : Nat} (hw : w ≤ 64) {s : State} (h : w ≤ s.valid.toNat) :
    takeSymbol w s = drawLow w s := by
  unfold takeSymbol
  rw [if_neg (by simp only [Config.regWidth]; omega), if_neg (by omega)]

/-- With too few valid bits and a full answer TAKE_SYMBOL draws from the refilled buffer. -/
theorem takeSymbol_refill {w : Nat} (hw : w ≤ 64) {s : State} (h : s.valid.toNat < w)
    {b0 b1 b2 b3 b4 b5 b6 b7 : Byte} {e : Env} (hr : rngRead s.env = some (.full b0 b1 b2 b3 b4 b5 b6 b7, e)) :
    takeSymbol w s = drawLow w (loadBuffer (littleEndianWord b0 b1 b2 b3 b4 b5 b6 b7) (withEnv e s)) := by
  unfold takeSymbol
  rw [if_neg (by simp only [Config.regWidth]; omega), if_pos h]
  unfold refill
  rw [hr]

/-- With too few valid bits and a short answer TAKE_SYMBOL raises EntropySourceExhausted. -/
theorem takeSymbol_short {w : Nat} (hw : w ≤ 64) {s : State} (h : s.valid.toNat < w) {e : Env}
    (hr : rngRead s.env = some (.short, e)) :
    takeSymbol w s = .exhausted (raiseError errSourceExhausted (withEnv e s)) := by
  unfold takeSymbol
  rw [if_neg (by simp only [Config.regWidth]; omega), if_pos h]
  unfold refill
  rw [hr]

/-- With too few valid bits and no answer TAKE_SYMBOL waits. -/
theorem takeSymbol_waiting {w : Nat} (hw : w ≤ 64) {s : State} (h : s.valid.toNat < w) (hr : rngRead s.env = none) :
    takeSymbol w s = .waiting := by
  unfold takeSymbol
  rw [if_neg (by simp only [Config.regWidth]; omega), if_pos h]
  unfold refill
  rw [hr]

/-- The four ways a TAKE_SYMBOL of a width that BUF can hold ends. -/
theorem takeSymbol_cases {w : Nat} (hw : w ≤ 64) (s : State) :
    (∃ u, Refilled w s u ∧ takeSymbol w s = drawLow w u) ∨
    (s.valid.toNat < w ∧ ∃ e, rngRead s.env = some (.short, e) ∧
      takeSymbol w s = .exhausted (raiseError errSourceExhausted (withEnv e s))) ∨
    (s.valid.toNat < w ∧ rngRead s.env = none ∧ takeSymbol w s = .waiting) := by
  rcases Nat.lt_or_ge s.valid.toNat w with hv | hv
  · cases hr : rngRead s.env with
    | none => exact .inr (.inr ⟨hv, rfl, takeSymbol_waiting hw hv hr⟩)
    | some p =>
      obtain ⟨a, e⟩ := p
      cases a with
      | short => exact .inr (.inl ⟨hv, e, rfl, takeSymbol_short hw hv hr⟩)
      | full b0 b1 b2 b3 b4 b5 b6 b7 =>
        exact .inl ⟨_, .loaded _ _ _ _ _ _ _ _ _ hv hr, takeSymbol_refill hw hv hr⟩
  · exact .inl ⟨s, .enough hv, takeSymbol_enough hw hv⟩

/-- The mapper reads the LUT, which neither the refill nor the draw touches. -/
theorem mapWord_congr {s t : State} (hd : t.domain = s.domain) (hc : t.domainCount = s.domainCount) (x : WordSymbol) :
    mapWord t x = mapWord s x := by
  unfold mapWord lutRead; rw [hd, hc]

/-- A refill touches BUF, VALID, REFILL_COUNT and the inputs alone. -/
theorem Refilled.frame {w : Nat} {s u : State} (h : Refilled w s u) :
    u.state = s.state ∧ u.cfgMode = s.cfgMode ∧ u.cfgVerbose = s.cfgVerbose ∧ u.cfgTarget = s.cfgTarget ∧
    u.rmode = s.rmode ∧ u.rtarget = s.rtarget ∧ u.accBits = s.accBits ∧ u.accCount = s.accCount ∧
    u.drawCount = s.drawCount ∧ u.errCode = s.errCode ∧ u.rej = s.rej ∧ u.domain = s.domain ∧
    u.domainCount = s.domainCount ∧ u.out = s.out := by
  cases h <;> simp

/-- A refill leaves the actions to come and the HOST's inputs alone. -/
theorem Refilled.env_frame {w : Nat} {s u : State} (h : Refilled w s u) :
    u.env.agenda = s.env.agenda ∧ u.env.resetIn = s.env.resetIn ∧ u.env.readData = s.env.readData ∧
    u.env.rngAvail = s.env.rngAvail ∧ u.env.rngRest = s.env.rngRest ∧ u.env.rngAbandoned = s.env.rngAbandoned := by
  cases h with
  | enough h => simp
  | loaded b0 b1 b2 b3 b4 b5 b6 b7 e h hr => simpa using rngRead_frame hr

/-- After it BUF has at least `w` valid bits. -/
theorem Refilled.valid_ge {w : Nat} (hw : w ≤ 64) {s u : State} (h : Refilled w s u) : w ≤ u.valid.toNat := by
  cases h with
  | enough h => exact h
  | loaded => simpa using hw

end Sys2Proof.Machine
end

