-- ==== Sys2Proof/Laws/PerInstr.lean ====
section
/-! SUPPORT. The statement made per instruction: what an instruction encodes to matches the row of the opcode table with the
instruction's own mnemonic (30_encoding.md R72, R76), and a READ is an address on the read port (R82). -/

namespace Sys2Proof.Laws.EncodingMatchesTable

/-- An instruction's mnemonic in spec/opcode_table.json. -/
def mnemonic : Instr → String
  | .nop         => "NOP"
  | .cfg _ _ _ _ => "CFG"
  | .lutClear    => "LUT_CLEAR"
  | .lutPush _   => "LUT_PUSH"
  | .start       => "START"
  | .read _      => "READ"

/-- The row of 30_encoding.md R76 with the instruction's mnemonic matches the word it encodes to; a READ has no word. -/
def Statement (i : Instr) : Prop :=
  match encode i with
  | .command w     => ∃ r ∈ opcodeRows, r.mnemonic = mnemonic i ∧ r.matchesWord w = true
  | .readAddress a => i = .read a

theorem nop : Statement .nop := ⟨_, .head _, rfl, rfl⟩

theorem cfg (mode : Mode) (verbose useDefault : Bool) (target : Target) :
    Statement (.cfg mode verbose useDefault target) := by
  refine ⟨_, .tail _ (.head _), rfl, ?_⟩
  rw [OpcodeRow.matchesWord, beq_iff_eq]
  apply BitVec.eq_of_getLsbD_eq
  intro i hi
  simp only [BitVec.getLsbD_and, commandWord_getLsbD]
  interval_cases i <;> simp

theorem lutClear : Statement .lutClear := ⟨_, .tail _ (.tail _ (.head _)), rfl, rfl⟩

theorem lutPush (token : Token) : Statement (.lutPush token) := by
  refine ⟨_, .tail _ (.tail _ (.tail _ (.head _))), rfl, ?_⟩
  rw [OpcodeRow.matchesWord, beq_iff_eq]
  apply BitVec.eq_of_getLsbD_eq
  intro i hi
  simp only [BitVec.getLsbD_and, commandWord_getLsbD]
  interval_cases i <;> simp

theorem start : Statement .start := ⟨_, .tail _ (.tail _ (.tail _ (.tail _ (.head _)))), rfl, rfl⟩

theorem read (addr : ReadAddr) : Statement (.read addr) := rfl

end Sys2Proof.Laws.EncodingMatchesTable
end

