-- ==== Sys2Proof/Laws/Step.lean ====
section
/-! SUPPORT. What a step can do, said once: each instruction's next state, the outcomes of the CORE's turn, and the actions a
step is made of. -/

namespace Sys2Proof.Machine

open Sys2Proof.Safety

/-- The next state of each instruction. -/
def effect : Instr → State → State
  | .nop, s => s
  | .cfg m v d t, s => setConfig m v (cfgTargetOperand m d t) s
  | .lutClear, s => if runInProgress s then reject s else clearDomain s
  | .lutPush t, s => if runInProgress s then reject s else pushToken t s
  | .start, s => if runInProgress s then reject s else launchRun (latchRun s)
  | .read a, s => withEnv { s.env with readData := readRegister a s } s

/-- Every instruction answers a next state in every state. -/
theorem exec_eq (i : Instr) (s : State) : exec i s = .next (effect i s) := by
  cases i <;> simp only [exec, effect, execNop, execCfg, execLutClear, execLutPush, execStart, execRead] <;>
    (try split) <;> rfl

@[simp] theorem runInProgress_iff (s : State) : runInProgress s = true ↔ s.state = .collecting := by
  simp [runInProgress]

/-- What the CORE's turn can leave. -/
inductive CoreOutcome (s : State) : State → Prop
  /-- No STEP is enabled. -/
  | pass : stepEnabled s = false → CoreOutcome s s
  /-- The refill got a short answer. -/
  | exhausted (e : Env) : s.state = .collecting → s.valid.toNat < symbolWidth s.rmode →
      rngRead s.env = some (.short, e) → CoreOutcome s (raiseError errSourceExhausted (withEnv e s))
  /-- A WORD symbol is accepted. -/
  | word (u : State) (tok : Token) : s.state = .collecting → s.rmode = .word → Refilled Config.wordWidth s u →
      lutRead s (u.buf.setWidth 18) = some tok →
      CoreOutcome s (terminal (acceptSymbol tok Config.wordWidth (countDraw (shiftOut Config.wordWidth u))))
  /-- A DIGIT symbol is accepted. -/
  | digit (u : State) (d : DigitSymbol) : s.state = .collecting → s.rmode = .digit → Refilled Config.digitWidth s u →
      u.buf.setWidth 4 = d → d.toNat ≤ 9 →
      CoreOutcome s
        (terminal (acceptSymbol (digitRecord d) Config.digitWidth (countDraw (shiftOut Config.digitWidth u))))
  /-- A DIGIT symbol is rejected. -/
  | rejected (u : State) : s.state = .collecting → s.rmode = .digit → Refilled Config.digitWidth s u →
      9 < (u.buf.setWidth 4).toNat → CoreOutcome s (countDraw (shiftOut Config.digitWidth u))

/-- A STEP waits exactly when it needs a refill the RNG has not answered. -/
theorem stepEnabled_false_of_waiting {s : State} (hv : s.valid.toNat < symbolWidth s.rmode)
    (hr : rngRead s.env = none) : stepEnabled s = false := by
  simp [stepEnabled, needsRefill, hr]
  intro h
  exact ⟨h, hv⟩

/-- A CORE that does not collect takes no STEP. -/
theorem coreTurn_not_collecting {s : State} (h : s.state ≠ .collecting) : coreTurn s = .next s := by
  unfold coreTurn
  cases hs : s.state <;> simp_all

theorem coreTurn_word {s : State} (hs : s.state = .collecting) (hm : s.rmode = .word) : coreTurn s = wordStep s := by
  unfold coreTurn; rw [hs, hm]

theorem coreTurn_digit {s : State} (hs : s.state = .collecting) (hm : s.rmode = .digit) :
    coreTurn s = digitStep s := by
  unfold coreTurn; rw [hs, hm]

/-- Everything the CORE's turn can do when it answers a next state. -/
theorem coreTurn_cases {s t : State} (h : coreTurn s = .next t) : CoreOutcome s t := by
  by_cases hs : s.state = .collecting
  · cases hm : s.rmode with
    | word =>
      rw [coreTurn_word hs hm] at h
      unfold wordStep at h
      rcases takeSymbol_cases (w := Config.wordWidth) (by decide) s with ⟨u, hu, e⟩ | ⟨hv, e', hr, e⟩ | ⟨hv, hr, e⟩
      · rw [e] at h
        simp only [drawLow, acceptWord] at h
        rw [mapWord_congr (s := s) (by simp [hu.frame]) (by simp [hu.frame])] at h
        split at h
        · cases h
          exact .word u _ hs hm hu ‹_›
        · cases h
      · rw [e] at h
        cases h
        exact .exhausted e' hs (by simpa [hm, symbolWidth] using hv) hr
      · rw [e] at h
        cases h
        exact .pass (stepEnabled_false_of_waiting (by simpa [hm, symbolWidth] using hv) hr)
    | digit =>
      rw [coreTurn_digit hs hm] at h
      unfold digitStep at h
      rcases takeSymbol_cases (w := Config.digitWidth) (by decide) s with ⟨u, hu, e⟩ | ⟨hv, e', hr, e⟩ | ⟨hv, hr, e⟩
      · rw [e] at h
        simp only [drawLow, acceptOrRejectDigit, mapDigit] at h
        split at h
        · cases h
          rename_i hx
          split at hx
          · cases hx
            exact .digit u _ hs hm hu rfl ‹_›
          · cases hx
        · cases h
          rename_i hx
          split at hx
          · cases hx
          · exact .rejected u hs hm hu (Nat.lt_of_not_le ‹_›)
      · rw [e] at h
        cases h
        exact .exhausted e' hs (by simpa [hm, symbolWidth] using hv) hr
      · rw [e] at h
        cases h
        exact .pass (stepEnabled_false_of_waiting (by simpa [hm, symbolWidth] using hv) hr)
  · rw [coreTurn_not_collecting hs] at h
    cases h
    exact .pass (by simp [stepEnabled, hs])

/-- An asserted RESET is served first. -/
theorem step_of_reset {s : State} (h : s.env.resetIn = true) : step s = .next (resetAction s) := by
  simp [step, nextAction, h]

/-- With no action pending the CORE runs. -/
theorem step_of_no_agenda {s : State} (hr : s.env.resetIn = false) (ha : s.env.agenda = []) : step s = coreTurn s := by
  simp [step, nextAction, hr, ha]

/-- A pending action is taken. -/
theorem step_of_turn {s : State} {x : Turn} {rest : List Turn} (hr : s.env.resetIn = false)
    (ha : s.env.agenda = x :: rest) : step s = takeTurn x (withAgenda rest s) := by
  simp [step, nextAction, hr, ha]

/-- A port access that decodes is executed. -/
theorem step_of_instruction {s : State} {p : PortAccess} {i : Instr} {rest : List Turn} (hr : s.env.resetIn = false)
    (ha : s.env.agenda = .host p :: rest) (hd : decode p = .ok i) : step s = exec i (withAgenda rest s) := by
  rw [step_of_turn hr ha]; simp [takeTurn, performAccess, hd]

/-- A port access that does not decode is rejected. -/
theorem step_of_illegal {s : State} {p : PortAccess} {r : DecodeReject} {rest : List Turn}
    (hr : s.env.resetIn = false) (ha : s.env.agenda = .host p :: rest) (hd : decode p = .error r) :
    step s = .next (reject (withAgenda rest s)) := by
  rw [step_of_turn hr ha]; simp [takeTurn, performAccess, hd]

/-- What one step can leave. -/
inductive StepOutcome (s : State) : State → Prop
  | reset : s.env.resetIn = true → StepOutcome s (resetAction s)
  | coreAlone {t : State} : s.env.resetIn = false → s.env.agenda = [] → CoreOutcome s t → StepOutcome s t
  | core {t : State} (rest : List Turn) : s.env.resetIn = false → s.env.agenda = .core :: rest →
      CoreOutcome (withAgenda rest s) t → StepOutcome s t
  | instruction (p : PortAccess) (i : Instr) (rest : List Turn) : s.env.resetIn = false →
      s.env.agenda = .host p :: rest → decode p = .ok i → StepOutcome s (effect i (withAgenda rest s))
  | illegal (p : PortAccess) (r : DecodeReject) (rest : List Turn) : s.env.resetIn = false →
      s.env.agenda = .host p :: rest → decode p = .error r → StepOutcome s (reject (withAgenda rest s))
  | input (e : Env) (x : Turn) (rest : List Turn) : s.env.resetIn = false → s.env.agenda = x :: rest →
      actionOfTurn x = .input → StepOutcome s (withEnv e s)

/-- Everything a step can do when it answers a next state. -/
theorem step_cases {s t : State} (h : step s = .next t) : StepOutcome s t := by
  unfold step nextAction at h
  split at h
  · cases h; exact .reset ‹_›
  · rename_i hr
    have hr : s.env.resetIn = false := by simpa using hr
    split at h
    · exact .coreAlone hr ‹_› (coreTurn_cases h)
    · rename_i x rest ha
      cases x with
      | host p =>
        simp only [takeTurn, performAccess] at h
        split at h
        · rw [exec_eq] at h; cases h
          exact .instruction p _ rest hr ha ‹_›
        · cases h
          exact .illegal p _ rest hr ha ‹_›
      | core => exact .core rest hr ha (coreTurn_cases h)
      | rngDelivers a => cases h; exact .input _ _ rest hr ha rfl
      | setRngAvail b => cases h; exact .input _ _ rest hr ha rfl
      | assertReset => cases h; exact .input _ _ rest hr ha rfl

end Sys2Proof.Machine
end

