-- ==== Sys2Proof/Tests/Slice0.lean ====
section
/-! SUPPORT. The model's own tests: words and effects from 95_test_vectors.md and from the examples of the rules, and for
each statement with hypotheses a state that meets them. -/

namespace Sys2Proof.Tests

open Sys2Proof Sys2Proof.Machine Sys2Proof.Safety

/-! ### Helpers -/

/-- The inputs: no action pending, and an RNG that gives these answers and no more. -/
def inputs (answers : List RngAnswer) : Env :=
  { Env.initial with rngQueue := answers, rngRest := .silent }

/-- A full answer whose eight bytes are zero. -/
def zeros : RngAnswer := .full 0#8 0#8 0#8 0#8 0#8 0#8 0#8 0#8

/-- The answer of program P1. -/
def p1Answer : RngAnswer := .full 0x3A#8 0x7F#8 0x02#8 0#8 0#8 0#8 0#8 0#8

/-- PGCORE after reset, over these inputs. -/
def idle (e : Env) : State := State.resetWith e

/-- A DIGIT run for three digits that has drawn nothing. -/
def digitRun (answers : List RngAnswer) : State :=
  { idle (inputs answers) with state := .collecting, cfgMode := .digit, cfgTarget := 3#32, rmode := .digit, rtarget := 3#32 }

/-- The run of vector V58: two digits accepted, the target three, `x` the four valid bits of BUF. -/
def lastDigit (x : BitVec 64) : State :=
  { digitRun [] with
    buf := x, valid := 4#7, accBits := 8#34, accCount := 2#32, drawCount := 15#64, refillCount := 1#64,
    out := [3#32, 7#32] }

/-- A WORD run for one token over a full LUT, with no refill made. Its cells are these. -/
def wordRun (cells : Memory) (answers : List RngAnswer) : State :=
  { idle (inputs answers) with state := .collecting, cfgTarget := 1#32, rtarget := 1#32, domain := cells, domainCount := 262144#19 }

/-- The LUT of LOAD_DOMAIN(default f): entry i holds 0x8000_0000 + i. -/
def fullLut : Memory := (List.range' 0 262144).map fun j => (j, 0x80000000#32 + BitVec.ofNat 32 j)

/-- Program P3 before its last draw: three tokens drawn from one refill, ten bits left over. -/
def lastToken (cells : Memory) : State :=
  { wordRun cells [zeros] with
    cfgTarget := 64#32, rtarget := 64#32, buf := 4#64, valid := 10#7, accBits := 54#34, accCount := 3#32,
    drawCount := 3#64, refillCount := 1#64, out := [0x8003CDEF#32, 0x8001E26A#32, 0x80023456#32] }

/-- With these actions pending. -/
def pending (turns : List Turn) (s : State) : State := withAgenda turns s

/-- Whether the next step answers a next state with this property. -/
def stepTo (p : State → Bool) (s : State) : Bool :=
  match step s with
  | .next t    => p t
  | .fault _   => false
  | .refused _ => false

/-- Whether the instruction answers a next state with this property. -/
def execTo (p : State → Bool) (i : Instr) (s : State) : Bool :=
  match exec i s with
  | .next t    => p t
  | .fault _   => false
  | .refused _ => false

/-- The value the read port shows for this address. -/
def port (a : ReadAddr) (v : Word64) (s : State) : Bool := execTo (fun t => t.env.readData == v) (.read a) s

/-! ### Well-formed words, decoding and the encoder -/

/-- V79 to V85, and R76: one ill-formed word for each must-be-zero field of each row, and the first and last reserved
opcode. -/
theorem test_illformed_words_refused :
    wellFormedWord 0x0000000000000010#64 = false ∧ wellFormedWord 0x8000000000000000#64 = false ∧
    wellFormedWord 0x0000000000000081#64 = false ∧ wellFormedWord 0x0000000080000001#64 = false ∧
    wellFormedWord 0x0000000000000012#64 = false ∧ wellFormedWord 0x0000000100000002#64 = false ∧
    wellFormedWord 0x0000000000000013#64 = false ∧ wellFormedWord 0x0000000080000003#64 = false ∧
    wellFormedWord 0x0000000000000104#64 = false ∧ wellFormedWord 0x0000000100000004#64 = false ∧
    wellFormedWord 0x0000000000000005#64 = false ∧ wellFormedWord 0x000000000000000F#64 = false := by decide

theorem test_illformed_access_refused : (PortAccess.command 0x0000000000000104#64).wellFormed = false := by decide

theorem test_wellformed_access : (PortAccess.command 0xFFFFFFFF00000071#64).wellFormed = true ∧
    (PortAccess.readAddress 0xFF#8).wellFormed = true ∧ (Instr.read 0xFF#8).wellFormed = true := by decide

/-- V79, V80, V82: the decoder's two reasons. -/
theorem test_decode_rejects_by_name :
    decodeCommand 0x0000000000000005#64 = .error (.reservedOpcode 5#4) ∧
    decodeCommand 0x0000000000000104#64 = .error (.nonzeroReservedBits 4#4) ∧
    decodeCommand 0x0000000000000082#64 = .error (.nonzeroReservedBits 2#4) ∧
    decodeCommand 0x0000000000000081#64 = .error (.nonzeroReservedBits 1#4) := by decide

/-- R71: the fields of a NOP, bit by bit. -/
theorem test_decode_nop : decodeCommand (0#32 ++ 0#25 ++ 0#1 ++ 0#1 ++ 0#1 ++ 0b0000#4) = .ok .nop := by decide

/-- V76, V77: a CFG word written field by field, target, Z, D, V, M, OP; and one whose target is ignored. -/
theorem test_decode_cfg :
    decodeCommand (3#32 ++ 0#25 ++ 0#1 ++ 1#1 ++ 1#1 ++ 0b0001#4) = .ok (.cfg .digit true false 3#32) ∧
    decodeCommand 0xFFFFFFFF00000041#64 = .ok (.cfg .word false true 0xFFFFFFFF#32) := by decide

theorem test_decode_lutClear : decodeCommand (0#60 ++ 0b0010#4) = .ok .lutClear := by decide

/-- V32. -/
theorem test_decode_lutPush : decodeCommand (0xDEADBEEF#32 ++ 0#28 ++ 0b0011#4) = .ok (.lutPush 0xDEADBEEF#32) := by decide

theorem test_decode_start : decodeCommand (0#60 ++ 0b0100#4) = .ok .start := by decide

theorem test_decode_read : decode (.readAddress 0x0D#8) = .ok (.read 0x0D#8) := by decide

/-- The words of the opcode table, with all operands zero and with all ones. -/
theorem test_decode_table_words :
    decodeTableWord 64 0 = some .nop ∧ decodeTableWord 64 0xFFFFFFFF00000071 = some (.cfg .digit true true 0xFFFFFFFF#32) ∧
    decodeTableWord 64 2 = some .lutClear ∧ decodeTableWord 64 0xFFFFFFFF00000003 = some (.lutPush 0xFFFFFFFF#32) ∧
    decodeTableWord 64 4 = some .start ∧ decodeTableWord 8 0xFF = some (.read 0xFF#8) ∧ decodeTableWord 64 5 = none ∧
    decodeTableWord 65 0 = none := by decide

/-- R86: the words the encoder writes. -/
theorem test_encode_words :
    encode (.cfg .digit true false 3#32) = .command 0x0000000300000031#64 ∧
    encode (.cfg .word false true 0#32) = .command 0x0000000000000041#64 ∧
    encode (.lutPush 0x00001000#32) = .command 0x0000100000000003#64 ∧
    encode .start = .command 0x0000000000000004#64 ∧ encode (.read 0x08#8) = .readAddress 0x08#8 := by decide

/-! ### The instructions -/

/-- R190: a NOP in COLLECTING. -/
theorem test_nop_collecting : execTo (fun t => t == digitRun [zeros]) .nop (digitRun [zeros]) = true := by decide

/-- V75: the default of DIGIT mode. -/
theorem test_cfg_digit_default :
    execTo (fun t => t.cfgMode == .digit && t.cfgTarget == 8#32) (.cfg .digit false true 0#32) State.reset = true := by decide

/-- V86: a CFG in COLLECTING reaches the configuration and not the run. -/
theorem test_cfg_leaves_run :
    execTo (fun t => t.cfgTarget == 64#32 && t.rmode == .digit && t.rtarget == 3#32) (.cfg .word false true 9#32)
      (digitRun []) = true := by decide

/-- V30. -/
theorem test_lutClear_empties :
    execTo (fun t => t.domainCount == 0#19 && lutRead t 0#18 == none && !t.rej) .lutClear
      { State.reset with state := .done, domain := [(0, 7#32)], domainCount := 5#19 } = true := by decide

/-- V35. -/
theorem test_lutClear_rejected :
    execTo (fun t => t.rej && t.domainCount == 262144#19) .lutClear (wordRun [] []) = true := by decide

/-- V32: the last entry. -/
theorem test_lutPush_last :
    execTo (fun t => t.domain == [(0x3FFFF, 0xDEADBEEF#32)] && t.domainCount == 262144#19 && port 0x00#8 8#64 t)
      (.lutPush 0xDEADBEEF#32) { State.reset with domainCount := 262143#19 } = true := by decide

/-- V33: a push to a full LUT. -/
theorem test_lutPush_full :
    execTo (fun t => t.domain == [] && t.domainCount == 262144#19 && !t.rej) (.lutPush 0x12345678#32)
      { State.reset with domainCount := 262144#19 } = true := by decide

/-- V37: the domain's check comes first. -/
theorem test_start_short_domain_first :
    execTo (fun t => t.state == .error && t.errCode == 4#3) .start
      { State.reset with domainCount := 100#19, env := { Env.initial with rngAvail := false } } = true := by decide

/-- V38: a DIGIT run needs no LUT. -/
theorem test_start_digit :
    execTo (fun t => t.state == .collecting && t.rtarget == 3#32 && t.rmode == .digit) .start
      { State.reset with cfgMode := .digit, cfgTarget := 3#32 } = true := by decide

/-- V94: STATUS of a finished run over a full LUT. -/
theorem test_read_status : port 0x00#8 0xA#64 { State.reset with state := .done, domainCount := 262144#19 } = true := by
  decide

/-- V92 and V93, and R196 on the run of V58: every register, PARAMS, and the addresses that read 0. -/
theorem test_read_registers :
    [(0x00#8, 0x1#64), (0x01#8, 0#64), (0x02#8, 1#64), (0x03#8, 3#64), (0x04#8, 1#64), (0x05#8, 3#64), (0x06#8, 8#64),
        (0x07#8, 2#64), (0x08#8, 2#64), (0x09#8, 4#64), (0x0A#8, 15#64), (0x0B#8, 1#64), (0x0C#8, 0#64),
        (0x0D#8, 0x0001092020041240#64), (0x0E#8, 0#64), (0xFF#8, 0#64)].all
      (fun c => port c.1 c.2 (lastDigit 9#64)) = true := by decide

/-! ### STEP -/

/-- V7 and R166's example: a refill, the nibble A rejected. -/
theorem test_step_digit_refill_reject :
    stepTo (fun t => t.buf == 0x27F3#64 && t.valid == 60#7 && t.drawCount == 1#64 && t.refillCount == 1#64 &&
      t.out == [] && t.state == .collecting) (digitRun [p1Answer]) = true := by decide

/-- V58: the digit that meets the target. -/
theorem test_step_digit_done :
    stepTo (fun t => t.out == [3#32, 7#32, 9#32] && t.accCount == 3#32 && t.accBits == 12#34 && t.state == .done)
      (lastDigit 9#64) = true := by decide

/-- V9: a WORD draw after a little-endian refill; the entry's token. -/
theorem test_step_word :
    stepTo (fun t => t.out == [0x0000BEEF#32] && t.buf == 0x48D159E26A#64 && t.valid == 46#7 && t.accBits == 18#34 &&
      t.state == .done)
      (wordRun [(0x3CDEF, 0x0000BEEF#32)] [.full 0xEF#8 0xCD#8 0xAB#8 0x89#8 0x67#8 0x45#8 0x23#8 0x01#8]) = true := by
  decide

/-- V60: a short answer. -/
theorem test_step_short :
    stepTo (fun t => t.state == .error && t.errCode == 2#3 && t.drawCount == 0#64) (digitRun [.short]) = true := by decide

/-- 20_memory.md R53: an entry with no value faults. -/
theorem test_step_unwritten_entry :
    step (wordRun [] [zeros]) = .fault (.lutEntryUnwritten 0#18) := rfl

/-- V101: a reset discards the answer to the request it abandons. -/
theorem test_reset_discards_answer :
    stepTo (fun t => t.state == .idle && t.env.rngQueue == [.short])
      { digitRun [zeros, .short] with env := { inputs [zeros, .short] with resetIn := true } } = true := by decide

/-- The opcode table's words run as the first instruction after reset. -/
theorem test_table_words_run_from_reset :
    stepTo (fun t => t.state == .idle && !t.rej) (State.reset.withFetchWord 64 0) = true ∧
    stepTo (fun t => t.cfgTarget == 0#32) (State.reset.withFetchWord 64 1) = true ∧
    stepTo (fun t => t.domainCount == 0#19 && !t.rej) (State.reset.withFetchWord 64 2) = true ∧
    stepTo (fun t => t.domain == [(0, 0#32)] && t.domainCount == 1#19) (State.reset.withFetchWord 64 3) = true ∧
    stepTo (fun t => t.state == .error && t.errCode == 4#3) (State.reset.withFetchWord 64 4) = true ∧
    stepTo (fun t => t.env.readData == 0x40#64) (State.reset.withFetchWord 8 3) = true := by decide

/-! ### Witnesses: for each statement with hypotheses, states and operands that meet them -/

/-- EncodeOfDecodeIsAccess. -/
theorem test_witness_decoded_access :
    decode (.command 0x0000000300000031#64) = .ok (.cfg .digit true false 3#32) ∧
    decode (.readAddress 0xFF#8) = .ok (.read 0xFF#8) := by decide

/-- DecodedWordsAreTableWords: both sides of the equivalence, true and false, and a word that a row matches. -/
theorem test_witness_table_words :
    wellFormedWord 0xFFFFFFFF00000071#64 = true ∧ wellFormedWord 0x0000000000000104#64 = false ∧
    (∃ r ∈ opcodeRows, r.matchesWord 0xFFFFFFFF00000003#64 = true) := by decide

/-- IllegalWordOnlySetsRej, OnlyIllegalWordsFailToDecode: one word for each clause, reserved opcodes 5 and 15 included. -/
theorem test_witness_illegal_words :
    IllegalWord 0x0000000000000005#64 ∧ IllegalWord 0x000000000000000F#64 ∧ IllegalWord 0x0000000000000010#64 ∧
    IllegalWord 0x8000000000000002#64 ∧ IllegalWord 0x0000000000000104#64 ∧ IllegalWord 0x0000000000000081#64 ∧
    IllegalWord 0x0000000080000003#64 ∧ ¬ IllegalWord 0x0000000000000004#64 := by
  refine ⟨?_, ?_, ?_, ?_, ?_, ?_, ?_, ?_⟩ <;> (simp only [IllegalWord]; decide)

/-- StepRunsDecodedInstruction: an access that decodes and one that does not. -/
theorem test_witness_step_runs_access :
    (pending [.host (.command 4#64)] State.reset).env.agenda = .host (.command 4#64) :: [] ∧
    State.reset.env.resetIn = false ∧ decode (.command 4#64) = .ok .start ∧ Instr.wellFormed .start = true ∧
    decode (.command 5#64) = .error (.reservedOpcode 5#4) := by decide

/-- StepGivesCoreItsTurn: no action pending, and a CORE turn. -/
theorem test_witness_core_turn :
    (digitRun []).env.agenda = [] ∧ (digitRun []).env.resetIn = false ∧
    (pending [.core] (digitRun [])).env.agenda = .core :: [] := by decide

/-- OnlyNamedWritersWrite: a step of each kind answers a next state. -/
theorem test_witness_each_action :
    ∀ x ∈ [Turn.host (.command 0#64), .host (.command 0x51#64), .host (.command 2#64), .host (.command 3#64),
        .host (.command 4#64), .host (.command 5#64), .host (.readAddress 0#8), .core, .rngDelivers .short,
        .setRngAvail false, .assertReset],
      stepTo (fun _ => true) (pending [x] (digitRun [zeros])) = true ∧
      stepTo (fun _ => true) (pending [x] (idle (inputs []))) = true := by decide

/-- StateTransitionsAreTheSpecs, OutGrowsByAppending, RejIsSticky: START from IDLE, DONE and ERROR in the CORE, reset. -/
theorem test_witness_transitions :
    stepTo (fun t => t.state == .error && !t.rej)
      (pending [.host (.command 4#64)] { idle (inputs []) with rej := true }) = true ∧
    stepTo (fun t => t.state == .done && t.out == [3#32, 7#32, 9#32]) (lastDigit 9#64) = true ∧
    stepTo (fun t => t.state == .error) (digitRun [.short]) = true ∧
    stepTo (fun t => t.state == .idle && !t.rej && t.out == [])
      { lastDigit 9#64 with rej := true, env := { inputs [] with resetIn := true } } = true := by decide

/-- RunRejectsLoadAndStart, DomainIsFixedDuringRun, CfgCommutesWithCoreTurn. -/
theorem test_witness_run_collects :
    (digitRun [zeros]).state = .collecting ∧ (digitRun [zeros]).env.resetIn = false ∧
    stepTo (fun _ => true) (digitRun [zeros]) = true ∧
    execTo (fun _ => true) (.cfg .word true true 0#32) (digitRun [zeros]) = true := by decide

/-- CfgCommutesWithCoreTurn: the CORE's turn answers a next state. -/
theorem test_witness_core_turn_next : ∃ t, coreTurn (digitRun [zeros]) = .next t := ⟨_, rfl⟩

/-- NopChangesNothing: words with OP = 0 and another bit set, the lowest and the highest there is. -/
theorem test_witness_nop_word :
    (0x0000000000000010#64).extractLsb' 0 4 = 0x0#4 ∧ 0x0000000000000010#64 ≠ 0#64 ∧
    (0x8000000000000000#64).extractLsb' 0 4 = 0x0#4 ∧ 0x8000000000000000#64 ≠ 0#64 := by decide

/-- CfgWordWritesConfiguration: a target that is used, and, with bits 4, 5 and 6 set, one that is ignored. -/
theorem test_witness_cfg_words :
    (0x0000000300000011#64).extractLsb' 0 4 = 0x1#4 ∧ (0x0000000300000011#64).extractLsb' 7 25 = 0#25 ∧
    (0xFFFFFFFF00000071#64).extractLsb' 0 4 = 0x1#4 ∧ (0xFFFFFFFF00000071#64).extractLsb' 7 25 = 0#25 := by decide

/-- HostSeesNeitherBufNorEntries: two states that differ in BUF and in the LUT's entries, on which a READ runs. -/
theorem test_witness_hidden_state :
    visible (wordRun [(0, 7#32)] []) = visible { wordRun [(0, 8#32)] [] with buf := 5#64 } ∧
    wordRun [(0, 7#32)] [] ≠ { wordRun [(0, 8#32)] [] with buf := 5#64 } ∧
    execTo (fun _ => true) (.read 0#8) (wordRun [(0, 7#32)] []) = true ∧
    execTo (fun _ => true) (.read 0#8) { wordRun [(0, 8#32)] [] with buf := 5#64 } = true := by decide

/-- LutClearEmptiesDomain, LutClearWordClearsOrRejects, LutPushStoresNextEntry, LutPushToFullDomainIsDropped,
LutHoldsFirstPushedTokens: DOMAIN_COUNT at 0, at the last free entry, and full, out of COLLECTING. -/
theorem test_witness_domain_counts :
    State.reset.state ≠ .collecting ∧ State.reset.domainCount = 0#19 ∧
    ({ State.reset with domainCount := 262143#19 }).domainCount.toNat < 2 ^ 18 ∧
    ¬ ({ State.reset with domainCount := 262144#19 }).domainCount.toNat < 2 ^ 18 := by decide

/-- LutClearWordClearsOrRejects: a WORD configuration, and one token too few to reload the LUT. -/
theorem test_witness_short_reload :
    State.reset.cfgMode = .word ∧ (List.replicate 262143 (0#32 : Token)).length < 2 ^ 18 :=
  ⟨rfl, by rw [List.length_replicate]; decide⟩

/-- LutPushWordLoadsDropsOrRejects: the word; the states are those above and a run. -/
theorem test_witness_push_word :
    (0xDEADBEEF00000003#64).extractLsb' 0 4 = 0x3#4 ∧ (0xDEADBEEF00000003#64).extractLsb' 4 28 = 0#28 := by decide

/-- RefillLoadsOrFails, TakeSymbolDrawsLowBits, WordSymbolsOfOneRefill, DigitSymbolsOfOneRefill: no answer, a short one, a
full one. -/
theorem test_witness_answers :
    rngRead (digitRun []).env = none ∧ rngRead (digitRun [.short]).env = some (.short, inputs []) ∧
    rngRead (digitRun [p1Answer]).env = some (p1Answer, inputs []) := by decide

/-- TakeSymbolDrawsLowBits: VALID at the width and one below it, with each of the three answers. -/
theorem test_witness_take_symbol :
    18 ≤ ({ digitRun [] with valid := 18#7 }).valid.toNat ∧ ({ digitRun [] with valid := 17#7 }).valid.toNat < 18 ∧
    refill { digitRun [] with valid := 17#7 } = .waiting ∧
    (∃ u, refill { digitRun [.short] with valid := 17#7 } = .failed u) ∧
    (∃ u, refill { digitRun [p1Answer] with valid := 17#7 } = .filled u) :=
  ⟨by decide, by decide, by decide, ⟨_, rfl⟩, ⟨_, rfl⟩⟩

/-- TooWideSymbolIsNeverTaken: the first width that BUF cannot hold. -/
theorem test_witness_too_wide : 64 < 65 ∧ takeSymbol 64 { digitRun [] with valid := 64#7 } ≠ .tooWide := by decide

/-- WordSymbolsOfOneRefill and DigitSymbolsOfOneRefill: one valid bit too few. -/
theorem test_witness_one_refill :
    ({ wordRun [] [zeros] with valid := 17#7 }).valid.toNat < 18 ∧ ({ digitRun [zeros] with valid := 3#7 }).valid.toNat < 4 ∧
    rngRead (wordRun [] [zeros]).env = some (zeros, inputs []) := by decide

theorem fullLut_read (i : Nat) (h : i < 262144) : fullLut.read i = some (0x80000000#32 + BitVec.ofNat 32 i) := by
  unfold fullLut; rw [Memory.read_map_range']; simp [h]

/-- MapWordInjectiveIffDistinct: a full LUT. -/
theorem test_witness_full_lut : DomainOk (wordRun fullLut []) ∧ (wordRun fullLut []).domainCount.toNat = 2 ^ 18 :=
  ⟨⟨Memory.wf_map_range' _ _ _ (by decide), by show (262144#19).toNat ≤ 262144; decide,
    fun i h => ⟨_, fullLut_read i (by simpa [wordRun] using h)⟩⟩, by show (262144#19).toNat = 2 ^ 18; decide⟩

/-- StartEntersCollecting: a WORD run over a full LUT, and a DIGIT run over an empty one. -/
theorem test_witness_start_enters :
    (∀ s ∈ [{ State.reset with domainCount := 262144#19 }, { State.reset with cfgMode := .digit, state := .done }],
      s.state ≠ .collecting ∧ (s.cfgMode = .word → s.domainCount.toNat = 2 ^ 18) ∧ s.env.rngAvail = true ∧
      s.cfgTarget ≠ 0#32) := by decide

/-- TargetZeroIsDoneAtStart. -/
theorem test_witness_target_zero :
    (∀ s ∈ [{ State.reset with cfgTarget := 0#32, domainCount := 262144#19 },
        { State.reset with cfgTarget := 0#32, cfgMode := .digit }],
      s.state ≠ .collecting ∧ (s.cfgMode = .word → s.domainCount.toNat = 2 ^ 18) ∧ s.env.rngAvail = true ∧
      s.cfgTarget = 0#32) := by decide

/-- StartWordLatchesClearsAndChecks, InsufficientDomainExactlyWhenShort, SourceUnavailableExactlyWhenClosed: a START that
raises code 4, one that raises code 1, and one that raises none. -/
theorem test_witness_start_checks :
    execTo (fun t => t.errCode == 4#3) .start { State.reset with domainCount := 262143#19 } = true ∧
    execTo (fun t => t.errCode == 1#3) .start
      { State.reset with domainCount := 262144#19, env := { inputs [] with rngAvail := false } } = true ∧
    execTo (fun t => t.errCode == 0#3 && t.state == .collecting) .start
      { State.reset with domainCount := 262144#19 } = true := by decide

/-- InsufficientDomainExactlyWhenShort and SourceUnavailableExactlyWhenClosed: steps that raise codes 4 and 1. -/
theorem test_witness_start_steps :
    stepTo (fun t => t.errCode == 4#3) (pending [.host (.command 4#64)] State.reset) = true ∧
    stepTo (fun t => t.errCode == 1#3)
      (pending [.host (.command 4#64)]
        { State.reset with cfgMode := .digit, env := { inputs [] with rngAvail := false } }) = true ∧
    State.reset.errCode ≠ 4#3 ∧ State.reset.errCode ≠ 1#3 := by decide

/-- ShortAnswerEndsRunPrecisely, SourceUnavailableExactlyWhenClosed, UnansweredRefillIsStuck: one valid bit too few for each
width, with a short answer and with none. -/
theorem test_witness_short_and_silent :
    (∀ s ∈ [{ digitRun [.short] with valid := 3#7 }, { wordRun [] [.short] with valid := 17#7 }],
      s.state = .collecting ∧ s.valid.toNat < symbolWidth s.rmode ∧ rngRead s.env = some (.short, inputs [])) ∧
    (∀ s ∈ [{ digitRun [] with valid := 3#7 }, { wordRun [] [] with valid := 17#7 }],
      s.state = .collecting ∧ s.valid.toNat < symbolWidth s.rmode ∧ rngRead s.env = none ∧ s.env.resetIn = false ∧
      s.env.agenda = []) := by decide

/-- OnlyRefillReadsRandomSource: a draw with enough valid bits, and a START. -/
theorem test_witness_no_refill :
    stepTo (fun _ => true) (lastDigit 9#64) = true ∧ actionOf (lastDigit 9#64) = .core ∧
    ¬ (lastDigit 9#64).valid.toNat < symbolWidth (lastDigit 9#64).rmode ∧
    actionOf (pending [.host (.command 4#64)] State.reset) = .instruction .start := by decide

/-- WordStepAcceptsToken: a draw of the symbol 0. -/
theorem test_witness_word_step :
    ∃ u, takeSymbol 18 (wordRun [(0, 7#32)] [zeros]) = .symbol 0#18 u ∧
      (wordRun [(0, 7#32)] [zeros]).state = .collecting ∧ (wordRun [(0, 7#32)] [zeros]).rmode = .word ∧
      (0#18).toNat < (wordRun [(0, 7#32)] [zeros]).domainCount.toNat ∧
      (wordRun [(0, 7#32)] [zeros]).domain.read (0#18).toNat = some 7#32 :=
  ⟨_, rfl, by decide, by decide, by decide, by decide⟩

/-- DigitStepAcceptsDigit and DigitStepRejectsSilently: V58 and V59, the largest digit and the smallest symbol that is
none. -/
theorem test_witness_digit_steps :
    (∃ u, takeSymbol 4 (lastDigit 9#64) = .symbol 9#4 u) ∧ (∃ u, takeSymbol 4 (lastDigit 10#64) = .symbol 10#4 u) ∧
    (lastDigit 9#64).state = .collecting ∧ (lastDigit 9#64).rmode = .digit ∧ (9#4).toNat ≤ 9 ∧ 9 < (10#4).toNat :=
  ⟨⟨_, rfl⟩, ⟨_, rfl⟩, by decide, by decide, by decide, by decide⟩

/-- FinishedRunStaysAsItIs. -/
theorem test_witness_finished :
    ∀ st ∈ [RunState.idle, .done, .error], ({ lastDigit 9#64 with state := st }).state ≠ .collecting ∧
      ({ lastDigit 9#64 with state := st }).env.resetIn = false ∧ ({ lastDigit 9#64 with state := st }).env.agenda = [] := by
  decide

/-- ResetTakesPriority: with an answer determined, for a run that waits for it and for one that does not. -/
theorem test_witness_reset :
    ({ digitRun [] with env := { inputs [zeros] with resetIn := true } }).env.resetIn = true ∧
    ({ digitRun [] with env := { inputs [zeros] with resetIn := true } }).valid.toNat < 4 ∧
    ¬ ({ lastDigit 9#64 with env := { inputs [zeros] with resetIn := true } }).valid.toNat < 4 := by decide

/-- AbandonedAnswerIsDiscarded: a reset, then the answer that comes too late. -/
theorem test_witness_abandoned :
    let s : State := { digitRun [] with env := { inputs [] with resetIn := true, agenda := [.rngDelivers zeros] } }
    s.env.resetIn = true ∧ s.state = .collecting ∧ s.valid.toNat < symbolWidth s.rmode ∧ rngRead s.env = none ∧
    s.env.rngAbandoned = 0 ∧ s.env.agenda = .rngDelivers zeros :: [] ∧ ∃ t, steps 2 s = .next t :=
  ⟨by decide, by decide, by decide, by decide, by decide, by decide, ⟨_, rfl⟩⟩

/-- BufferInvariantKept: VALID at each end of its range, BUF at its largest. -/
theorem test_witness_buffer :
    (0#7).toNat ≤ 64 ∧ (0#64).toNat < 2 ^ (0#7).toNat ∧ stepTo (fun _ => true) (digitRun [zeros]) = true ∧
    (64#7).toNat ≤ 64 ∧ (0xFFFFFFFFFFFFFFFF#64).toNat < 2 ^ (64#7).toNat ∧
    stepTo (fun _ => true) { digitRun [] with buf := 0xFFFFFFFFFFFFFFFF#64, valid := 64#7 } = true :=
  ⟨by decide, by decide, by decide, by decide, by simp, by decide⟩

/-- The states of the runs below are within the invariant: a DIGIT run before its last digit. -/
theorem test_witness_invariant_digit : Invariant (lastDigit 9#64) where
  buffer      := ⟨by decide, by decide⟩
  domain      := ⟨Memory.wf_nil, by decide, fun _ h => absurd h (Nat.not_lt_zero _)⟩
  status      := by unfold StatusOk; decide
  wordDomain  := fun _ h => nomatch h
  account     := ⟨rfl, rfl, fun _ => by show 2 < 3; decide, fun h => nomatch h⟩
  digits      := fun _ => by simp [lastDigit]
  digitBuffer := fun _ => rfl
  wordDraws   := fun h => nomatch h

/-- EveryStepKeepsInvariant, InvariantStatesNeverStop, DoneRunMeetsTarget, DigitRunCountsAtDone: the step that ends it. -/
theorem test_witness_digit_run_done :
    ∃ t, step (lastDigit 9#64) = .next t ∧ t.state = .done ∧ t.rmode = .digit := ⟨_, rfl, rfl, rfl⟩

/-- A WORD run with the default target before its last token. -/
theorem test_witness_invariant_word : Invariant (lastToken fullLut) where
  buffer      := ⟨by decide, by decide⟩
  domain      := test_witness_full_lut.1
  status      := ⟨.inl rfl, fun h => absurd rfl h, fun h => nomatch h⟩
  wordDomain  := fun _ _ => test_witness_full_lut.2
  account     := ⟨rfl, rfl, fun _ => by show 54 < 64; decide, fun h => nomatch h⟩
  digits      := fun h => nomatch h
  digitBuffer := fun h => nomatch h
  wordDraws   := fun _ _ => ⟨rfl, .inr ⟨by decide, by decide, by decide, by decide⟩⟩

/-- DoneRunMeetsTarget, WordRunCountsAtDone, WordRunRefillsAtDone: the step that ends it, after its second refill. -/
theorem test_witness_word_run_done :
    ∃ t, step (lastToken fullLut) = .next t ∧ t.state = .done ∧ t.rmode = .word ∧ t.rtarget = 64#32 := by
  have h := fullLut_read 0 (by decide)
  generalize fullLut = cells at h ⊢
  have e : step (lastToken cells) = acceptWord 0#18 (shiftOut 18 (loadBuffer 0#64 (withEnv (inputs []) (lastToken cells)))) :=
    rfl
  have m : mapWord (shiftOut 18 (loadBuffer 0#64 (withEnv (inputs []) (lastToken cells)))) 0#18 =
      some (0x80000000#32 + BitVec.ofNat 32 0) := by simpa [mapWord, lutRead, lastToken, wordRun] using h
  rw [e, acceptWord, m]
  exact ⟨_, rfl, rfl, rfl, rfl⟩

/-- WordRunTerminates: that run, one STEP from its end, with one full answer in the queue and silence after it; and over a
source of zeros, with a full answer of other bytes before them. -/
theorem test_witness_word_run_terminates :
    let s : State := lastToken fullLut
    let u : State := withEnv { inputs [p1Answer] with rngRest := .always zeros } s
    (Invariant s ∧ s.state = .collecting ∧ s.rmode = .word ∧ s.env.resetIn = false ∧ s.env.agenda = [] ∧
      (∀ a ∈ s.env.rngQueue, a ≠ .short) ∧
      (s.rtarget.toNat + 17) / 18 - s.accCount.toNat ≤ s.env.rngQueue.length) ∧
    (Invariant u ∧ u.state = .collecting ∧ u.rmode = .word ∧ u.env.resetIn = false ∧ u.env.agenda = [] ∧
      (∀ a ∈ u.env.rngQueue, a ≠ .short) ∧ u.env.rngRest = .always zeros ∧ zeros ≠ .short) :=
  ⟨⟨test_witness_invariant_word, rfl, rfl, rfl, rfl, by simp [lastToken, wordRun, idle, inputs, zeros],
      by show (64 + 17) / 18 - 3 ≤ 1; decide⟩,
    ⟨⟨test_witness_invariant_word.buffer, test_witness_invariant_word.domain, test_witness_invariant_word.status,
      test_witness_invariant_word.wordDomain, test_witness_invariant_word.account, test_witness_invariant_word.digits,
      test_witness_invariant_word.digitBuffer, test_witness_invariant_word.wordDraws⟩, rfl, rfl, rfl, rfl,
      by simp [inputs, p1Answer], rfl, by decide⟩⟩

/-- AllRejectedSourceLivelocks: the source of program P6. -/
theorem test_witness_livelock :
    let a : RngAnswer := .full 0xCC#8 0xCC#8 0xCC#8 0xCC#8 0xCC#8 0xCC#8 0xCC#8 0xCC#8
    let s : State := withEnv { inputs [] with rngRest := .always a } (digitRun [])
    s.state = .collecting ∧ s.rmode = .digit ∧ s.valid = 0#7 ∧ s.env.resetIn = false ∧ s.env.agenda = [] ∧
    s.env.rngQueue = [] ∧ s.env.rngRest = .always a := ⟨rfl, rfl, rfl, rfl, rfl, rfl, rfl⟩

end Sys2Proof.Tests
end

section
/-! The action a step performs together with what it leaves, and what each instruction can do, said once for the family of
10_state.md. -/

namespace Sys2Proof.Machine

open Sys2Proof.Safety

/-! ### The next state of each instruction, case by case -/

theorem effect_lutClear_rejected {s : State} (h : s.state = .collecting) : effect .lutClear s = reject s := by
  simp [effect, h]

theorem effect_lutClear_accepted {s : State} (h : s.state ≠ .collecting) : effect .lutClear s = clearDomain s := by
  simp [effect, h]

theorem effect_lutPush_rejected {s : State} (v : Token) (h : s.state = .collecting) :
    effect (.lutPush v) s = reject s := by
  simp [effect, h]

theorem effect_lutPush_accepted {s : State} (v : Token) (h : s.state ≠ .collecting) :
    effect (.lutPush v) s = pushToken v s := by
  simp [effect, h]

theorem effect_start_rejected {s : State} (h : s.state = .collecting) : effect .start s = reject s := by
  simp [effect, h]

theorem effect_start_accepted {s : State} (h : s.state ≠ .collecting) :
    effect .start s = launchRun (latchRun s) := by
  simp [effect, h]

/-- The three ways the checks of an accepted START end (43_accumulator.md R160). -/
theorem launchRun_cases (s : State) :
    (s.cfgMode = .word ∧ s.domainCount.toNat < Config.wordCount ∧
      launchRun s = raiseError errInsufficientDomain s) ∨
    (¬ (s.cfgMode = .word ∧ s.domainCount.toNat < Config.wordCount) ∧ s.env.rngAvail = false ∧
      launchRun s = raiseError errSourceUnavailable s) ∨
    (¬ (s.cfgMode = .word ∧ s.domainCount.toNat < Config.wordCount) ∧ s.env.rngAvail = true ∧
      launchRun s = terminal (enterCollecting s)) := by
  unfold launchRun
  by_cases hd : s.cfgMode = .word ∧ s.domainCount.toNat < Config.wordCount
  · exact .inl ⟨hd.1, hd.2, if_pos hd⟩
  · rw [if_neg hd]
    cases hr : s.env.rngAvail with
    | false => exact .inr (.inl ⟨hd, rfl, if_pos rfl⟩)
    | true => exact .inr (.inr ⟨hd, rfl, if_neg nofun⟩)

/-- START leaves BUF and VALID 0, whether its checks pass or not. -/
theorem launchRun_latchRun_buffer (s : State) :
    (launchRun (latchRun s)).buf = 0#64 ∧ (launchRun (latchRun s)).valid = 0#7 := by
  obtain ⟨-, -, e⟩ | ⟨-, -, e⟩ | ⟨-, -, e⟩ := launchRun_cases (latchRun s) <;> simp [e]

/-- A push stores the token while there is room, and else does nothing (42_domain_load.md R143). -/
theorem pushToken_cases (v : Token) (s : State) :
    (s.domainCount.toNat < Config.wordCount ∧ pushToken v s = lutAppend v s) ∨
    (Config.wordCount ≤ s.domainCount.toNat ∧ pushToken v s = s) := by
  unfold pushToken
  split
  · exact .inl ⟨‹_›, rfl⟩
  · exact .inr ⟨Nat.le_of_not_lt ‹_›, rfl⟩

/-- What an instruction can leave. -/
inductive EffectOutcome (s : State) : Instr → State → Prop
  | nop : EffectOutcome s .nop s
  | cfg (m : Mode) (v d : Bool) (x : Target) :
      EffectOutcome s (.cfg m v d x) (setConfig m v (cfgTargetOperand m d x) s)
  | read (a : ReadAddr) : EffectOutcome s (.read a) (withEnv { s.env with readData := readRegister a s } s)
  /-- A running run rejects the load commands and START (30_encoding.md R78). -/
  | rejected (i : Instr) : s.state = .collecting → (i = .lutClear ∨ (∃ v, i = .lutPush v) ∨ i = .start) →
      EffectOutcome s i (reject s)
  | cleared : s.state ≠ .collecting → EffectOutcome s .lutClear (clearDomain s)
  | stored (v : Token) : s.state ≠ .collecting → s.domainCount.toNat < Config.wordCount →
      EffectOutcome s (.lutPush v) (lutAppend v s)
  | dropped (v : Token) : s.state ≠ .collecting → Config.wordCount ≤ s.domainCount.toNat →
      EffectOutcome s (.lutPush v) s
  | started : s.state ≠ .collecting → EffectOutcome s .start (launchRun (latchRun s))

/-- Everything an instruction can do. -/
theorem effect_cases (i : Instr) (s : State) : EffectOutcome s i (effect i s) := by
  by_cases hs : s.state = .collecting
  · cases i with
    | nop => exact .nop
    | cfg => exact .cfg ..
    | read => exact .read _
    | lutClear => rw [effect_lutClear_rejected hs]; exact .rejected _ hs (.inl rfl)
    | lutPush v => rw [effect_lutPush_rejected v hs]; exact .rejected _ hs (.inr (.inl ⟨v, rfl⟩))
    | start => rw [effect_start_rejected hs]; exact .rejected _ hs (.inr (.inr rfl))
  · cases i with
    | nop => exact .nop
    | cfg => exact .cfg ..
    | read => exact .read _
    | lutClear => rw [effect_lutClear_accepted hs]; exact .cleared hs
    | lutPush v =>
      rw [effect_lutPush_accepted v hs]
      obtain ⟨hlt, e⟩ | ⟨hge, e⟩ := pushToken_cases v s <;> rw [e]
      · exact .stored v hs hlt
      · exact .dropped v hs hge
    | start => rw [effect_start_accepted hs]; exact .started hs

/-! ### The action a step performs -/

/-- What an action can leave. -/
inductive ActionOutcome (s : State) : Action → State → Prop
  | reset : ActionOutcome s .reset (resetAction s)
  | core (l : List Turn) {t : State} : CoreOutcome (withAgenda l s) t → ActionOutcome s .core t
  | instruction (i : Instr) (l : List Turn) {t : State} : EffectOutcome (withAgenda l s) i t →
      ActionOutcome s (.instruction i) t
  | illegal (l : List Turn) : ActionOutcome s .illegal (reject (withAgenda l s))
  | input (e : Env) : ActionOutcome s .input (withEnv e s)

theorem actionOf_of_reset {s : State} (h : s.env.resetIn = true) : actionOf s = .reset := by
  simp [actionOf, h]

theorem actionOf_of_no_agenda {s : State} (hr : s.env.resetIn = false) (ha : s.env.agenda = []) :
    actionOf s = .core := by
  simp [actionOf, hr, ha]

theorem actionOf_of_turn {s : State} {x : Turn} {rest : List Turn} (hr : s.env.resetIn = false)
    (ha : s.env.agenda = x :: rest) : actionOf s = actionOfTurn x := by
  simp [actionOf, hr, ha]

/-- A step leaves what the action it performs can leave. -/
theorem step_actionOutcome {s t : State} (h : step s = .next t) : ActionOutcome s (actionOf s) t := by
  cases step_cases h with
  | reset hr => rw [actionOf_of_reset hr]; exact .reset
  | coreAlone hr ha hc => rw [actionOf_of_no_agenda hr ha]; exact .core s.env.agenda hc
  | core rest hr ha hc => rw [actionOf_of_turn hr ha]; exact .core rest hc
  | instruction p i rest hr ha hd =>
    rw [actionOf_of_turn hr ha]
    simp only [actionOfTurn, hd]
    exact .instruction i rest (effect_cases i _)
  | illegal p r rest hr ha hd =>
    rw [actionOf_of_turn hr ha]
    simp only [actionOfTurn, hd]
    exact .illegal rest
  | input e x rest hr ha hx => rw [actionOf_of_turn hr ha, hx]; exact .input e

end Sys2Proof.Machine
end

section
/-! The invariant of BUF and VALID (10_state.md R22, R23; 40_bit_buffer.md R103). -/

namespace Sys2Proof.Safety

open Sys2Proof.Machine

/-- A BUF with no valid bit is 0. -/
theorem bufferOk_empty {s : State} (hb : s.buf = 0#64) (hv : s.valid = 0#7) : BufferOk s := by
  simp [BufferOk, hb, hv]

/-- The buffer's invariant speaks of BUF and VALID alone. -/
theorem BufferOk.congr {s t : State} (h : BufferOk s) (hb : t.buf = s.buf) (hv : t.valid = s.valid) : BufferOk t := by
  unfold BufferOk
  rw [hb, hv]
  exact h

/-- A full refill makes all of BUF valid, so any 64 bits will do (40_bit_buffer.md R101). -/
theorem bufferOk_loadBuffer (v : BitVec 64) (s : State) : BufferOk (loadBuffer v s) :=
  ⟨Nat.le_refl 64, v.isLt⟩

/-- The buffer a draw is made from is in order when the one before the refill was. -/
theorem BufferOk.refilled {w : Nat} {s u : State} (h : BufferOk s) (hu : Refilled w s u) : BufferOk u := by
  cases hu with
  | enough => exact h
  | loaded => exact bufferOk_loadBuffer _ _

/-- A draw of `w` valid bits leaves `w` fewer. -/
theorem shiftOut_valid_toNat {w : Nat} {s : State} (h : w ≤ s.valid.toNat) :
    (shiftOut w s).valid.toNat = s.valid.toNat - w := by
  have hw : w < 2 ^ 7 := Nat.lt_of_le_of_lt h s.valid.isLt
  have hn : (BitVec.ofNat 7 w).toNat = w := by rw [BitVec.toNat_ofNat, Nat.mod_eq_of_lt hw]
  rw [shiftOut_valid, BitVec.toNat_sub_of_le (by rwa [BitVec.le_def, hn]), hn]

/-- The shift of a draw brings zeros in above the bits that stay valid (40_bit_buffer.md R104). -/
theorem BufferOk.shiftOut {w : Nat} {s : State} (h : BufferOk s) (hw : w ≤ s.valid.toNat) :
    BufferOk (shiftOut w s) := by
  obtain ⟨hv, hb⟩ := h
  refine ⟨?_, ?_⟩ <;> rw [shiftOut_valid_toNat hw]
  · exact Nat.le_trans (Nat.sub_le ..) hv
  · rw [shiftOut_buf, BitVec.toNat_ushiftRight, Nat.shiftRight_eq_div_pow, Nat.div_lt_iff_lt_mul (Nat.two_pow_pos w),
      ← Nat.pow_add, Nat.sub_add_cancel hw]
    exact hb

/-- The buffer after a draw that refills where it must. -/
theorem BufferOk.draw {w : Nat} {s u : State} (h : BufferOk s) (hw : w ≤ 64) (hu : Refilled w s u) :
    BufferOk (Machine.shiftOut w u) :=
  (h.refilled hu).shiftOut (hu.valid_ge hw)

/-- The CORE's turn keeps the buffer in order. -/
theorem BufferOk.core {s t : State} (h : BufferOk s) (hc : CoreOutcome s t) : BufferOk t := by
  cases hc with
  | pass => exact h
  | exhausted e => exact bufferOk_empty rfl rfl
  | word u tok hs hm hu => exact (h.draw (by decide) hu).congr (by simp) (by simp)
  | digit u d hs hm hu => exact (h.draw (by decide) hu).congr (by simp) (by simp)
  | rejected u hs hm hu => exact (h.draw (by decide) hu).congr (by simp) (by simp)

/-- An instruction clears the buffer or leaves it. -/
theorem BufferOk.effect {s t : State} {i : Instr} (h : BufferOk s) (ht : EffectOutcome s i t) : BufferOk t := by
  cases ht with
  | nop | cfg | read | rejected | cleared | stored | dropped => exact h
  | started =>
    obtain ⟨hb, hv⟩ := launchRun_latchRun_buffer s
    exact bufferOk_empty hb hv

/-- Every action keeps the buffer in order (10_state.md R23). -/
theorem BufferOk.action {s t : State} {a : Action} (h : BufferOk s) (ho : ActionOutcome s a t) : BufferOk t := by
  cases ho with
  | reset => exact bufferOk_empty rfl rfl
  | core l hc => exact BufferOk.core (s := withAgenda l s) h hc
  | instruction i l ht => exact BufferOk.effect (s := withAgenda l s) h ht
  | illegal l => exact h
  | input e => exact h

end Sys2Proof.Safety

namespace Sys2Proof.Proofs

open Sys2Proof.Machine Sys2Proof.Safety

/-- Settles O50: a draw shifts zeros in above VALID, and every other writer of BUF clears it or fills it whole. -/
theorem bufferInvariantKept : Obligations.BufferInvariantKept :=
  ⟨⟨by decide, by decide⟩, fun _ _ hv hb hst => BufferOk.action ⟨hv, hb⟩ (step_actionOutcome hst)⟩

end Sys2Proof.Proofs
end

section
/-! The invariant of the reachable states (10_state.md R47): what each operation of a step does to its parts. -/

namespace Sys2Proof.Safety

open Sys2Proof.Machine

/-! ### The LUT (10_state.md R34; 42_domain_load.md) -/

/-- An empty domain needs no entry. -/
theorem DomainOk.clearDomain {s : State} (h : DomainOk s) : DomainOk (clearDomain s) := by
  obtain ⟨hwf, -, -⟩ := h
  exact ⟨hwf, Nat.zero_le _, fun i hi => absurd hi (Nat.not_lt_zero i)⟩

/-- A push writes the entry that the new count takes in. -/
theorem DomainOk.lutAppend {s : State} (h : DomainOk s) (v : Token) (hlt : s.domainCount.toNat < Config.wordCount) :
    DomainOk (lutAppend v s) := by
  obtain ⟨hwf, -, hread⟩ := h
  have hcount : (Machine.lutAppend v s).domainCount.toNat = s.domainCount.toNat + 1 :=
    BitVec.toNat_add_of_lt (by simp only [Config.wordCount] at hlt; simp; omega)
  refine ⟨Memory.wf_write _ _ _ hlt hwf, hcount ▸ hlt, fun i hi => ?_⟩
  rw [lutAppend_domain]
  rw [hcount] at hi
  obtain hi | rfl := Nat.lt_succ_iff_lt_or_eq.1 hi
  · rw [Memory.read_write_other _ _ (Nat.ne_of_lt hi)]
    exact hread i hi
  · exact ⟨v, Memory.read_write_same ..⟩

/-- DOMAIN_COUNT is at most WORD_N (10_state.md R34). -/
theorem DomainOk.count_le {s : State} (h : DomainOk s) : s.domainCount.toNat ≤ Config.wordCount := by
  obtain ⟨-, hle, -⟩ := h
  exact hle

/-! ### The parts of the invariant that do not speak of STATE, and TERMINAL -/

/-- One record and one count per accepted symbol, and its width in ACC_BITS (10_state.md R27, R28). -/
def TallyOk (s : State) : Prop :=
  s.out.length = s.accCount.toNat ∧ s.accBits.toNat = symbolWidth s.rmode * s.accCount.toNat

/-- The run has gone past its target by less than one symbol, or not at all (43_accumulator.md R172). -/
def WithinTarget (s : State) : Prop :=
  match s.rmode with
  | .word  => s.accBits.toNat < s.rtarget.toNat + Config.wordWidth
  | .digit => s.accCount.toNat ≤ s.rtarget.toNat

/-- What holds of a run at its TERMINAL: all of the invariant, but that the target may have been met just now. -/
structure BeforeTerminal (s : State) : Prop where
  collecting  : s.state = .collecting
  noError     : s.errCode = errNone
  buffer      : BufferOk s
  domain      : DomainOk s
  wordDomain  : WordRunHasDomain s
  tally       : TallyOk s
  within      : WithinTarget s
  digits      : DigitsOk s
  digitBuffer : DigitBufferOk s
  wordDraws   : WordDrawsOk s

theorem Invariant.tally {s : State} (h : Invariant s) : TallyOk s := by
  obtain ⟨hlen, hbits, -, -⟩ := h.account
  exact ⟨hlen, hbits⟩

/-- A run that collects has not met its target. -/
theorem Invariant.notMet {s : State} (h : Invariant s) (hs : s.state = .collecting) : NotMet s := by
  obtain ⟨-, -, hn, -⟩ := h.account
  exact hn hs

/-- ERR_CODE is 0 while a run collects (10_state.md R31). -/
theorem Invariant.errCode_eq_none {s : State} (h : Invariant s) (hs : s.state = .collecting) : s.errCode = errNone := by
  obtain ⟨-, hiff⟩ := h.status
  by_contra he
  have := hiff.1 he
  simp [hs] at this

theorem notMet_of_targetMet_false {s : State} (h : ¬ targetMet s = true) : NotMet s := by
  unfold NotMet
  cases hm : s.rmode with
  | word => rw [targetMet_word hm] at h; exact Nat.lt_of_not_le h
  | digit => rw [targetMet_digit hm] at h; exact Nat.lt_of_not_le h

theorem WithinTarget.justMet {s : State} (h : WithinTarget s) (hmet : targetMet s = true) : JustMet s := by
  unfold WithinTarget at h
  unfold JustMet
  cases hm : s.rmode with
  | word => rw [targetMet_word hm] at hmet; rw [hm] at h; exact ⟨hmet, h⟩
  | digit => rw [targetMet_digit hm] at hmet; rw [hm] at h; exact Nat.le_antisymm h hmet

/-- TERMINAL ends in DONE a run that has met its target and leaves every other as it is (43_accumulator.md R163). -/
theorem BeforeTerminal.terminal {s : State} (h : BeforeTerminal s) : Invariant (terminal s) := by
  obtain ⟨hlen, hbits⟩ := h.tally
  unfold Machine.terminal
  split
  next hmet =>
    exact {
      buffer := h.buffer, domain := h.domain, digits := h.digits, digitBuffer := h.digitBuffer
      status := ⟨.inl h.noError, fun he => absurd h.noError he, nofun⟩
      wordDomain := nofun
      account := ⟨hlen, hbits, nofun, fun _ => h.within.justMet hmet⟩
      wordDraws := fun hm _ => h.wordDraws hm (.inl h.collecting) }
  next hmet =>
    exact {
      buffer := h.buffer, domain := h.domain, digits := h.digits, digitBuffer := h.digitBuffer
      status := ⟨.inl h.noError, fun he => absurd h.noError he, fun he => absurd (h.collecting.symm.trans he) nofun⟩
      wordDomain := h.wordDomain
      account := ⟨hlen, hbits, fun _ => notMet_of_targetMet_false hmet,
        fun hd => absurd (h.collecting.symm.trans hd) nofun⟩
      wordDraws := h.wordDraws }

/-- The error entry scrubs BUF and ends the run, so all that is left of the invariant is what it keeps (60_exceptions.md
R229). -/
theorem invariant_raiseError {s : State} {code : BitVec 3}
    (hc : code = errSourceUnavailable ∨ code = errSourceExhausted ∨ code = errInsufficientDomain)
    (hd : DomainOk s) (ht : TallyOk s) (hg : DigitsOk s) : Invariant (raiseError code s) where
  buffer      := bufferOk_empty rfl rfl
  domain      := hd
  status      := ⟨.inr hc, fun _ => rfl, fun _ => by obtain rfl | rfl | rfl := hc <;> simp⟩
  wordDomain  := nofun
  account     := ⟨ht.1, ht.2, nofun, nofun⟩
  digits      := hg
  digitBuffer := fun _ => rfl
  wordDraws   := fun _ => nofun

/-! ### Reset and the instructions -/

/-- The invariant does not speak of CFG's registers, of REJ or of the inputs. -/
theorem Invariant.frame {s : State} (h : Invariant s) (m : Mode) (v : Bool) (x : Target) (r : Bool) (e : Env) :
    Invariant { s with cfgMode := m, cfgVerbose := v, cfgTarget := x, rej := r, env := e } :=
  ⟨h.buffer, h.domain, h.status, h.wordDomain, h.account, h.digits, h.digitBuffer, h.wordDraws⟩

theorem Invariant.withEnv {s : State} (h : Invariant s) (e : Env) : Invariant (withEnv e s) :=
  h.frame s.cfgMode s.cfgVerbose s.cfgTarget s.rej e

theorem Invariant.reject {s : State} (h : Invariant s) : Invariant (reject s) :=
  h.frame s.cfgMode s.cfgVerbose s.cfgTarget true s.env

/-- The values of 10_state.md R43 meet the invariant, whatever the inputs are. -/
theorem invariant_resetWith (e : Env) : Invariant (State.resetWith e) where
  buffer      := bufferOk_empty rfl rfl
  domain      := ⟨Memory.wf_nil, Nat.zero_le _, fun i hi => absurd hi (Nat.not_lt_zero i)⟩
  status      := ⟨.inl rfl, fun he => absurd rfl he, nofun⟩
  wordDomain  := nofun
  account     := ⟨rfl, rfl, nofun, nofun⟩
  digits      := nofun
  digitBuffer := nofun
  wordDraws   := fun _ => nofun

/-- Outside a run the LUT may be any that is in order. -/
theorem Invariant.setDomain {s : State} (h : Invariant s) (hs : s.state ≠ .collecting) (l : Memory) (c : BitVec 19)
    (hd : DomainOk { s with domain := l, domainCount := c }) :
    Invariant { s with domain := l, domainCount := c } :=
  ⟨h.buffer, hd, h.status, fun hc => absurd hc hs, h.account, h.digits, h.digitBuffer, h.wordDraws⟩

/-- A run that has passed START's checks and drawn nothing. -/
theorem beforeTerminal_enterCollecting {s : State} (hd : DomainOk s)
    (hw : ¬ (s.cfgMode = .word ∧ s.domainCount.toNat < Config.wordCount)) :
    BeforeTerminal (enterCollecting (latchRun s)) where
  collecting  := rfl
  noError     := rfl
  buffer      := bufferOk_empty rfl rfl
  domain      := hd
  wordDomain  := fun _ hm => Nat.le_antisymm hd.count_le (Nat.le_of_not_lt fun hlt => hw ⟨hm, hlt⟩)
  tally       := ⟨rfl, rfl⟩
  within      := by unfold WithinTarget; split <;> simp
  digits      := fun _ => nofun
  digitBuffer := fun _ => rfl
  wordDraws   := fun _ _ => ⟨rfl, .inl ⟨rfl, rfl, rfl⟩⟩

/-- Whatever the state it finds, an accepted START over a LUT in order leaves the invariant (43_accumulator.md R160). -/
theorem invariant_launchRun_latchRun {s : State} (hd : DomainOk s) : Invariant (launchRun (latchRun s)) := by
  obtain ⟨-, -, e⟩ | ⟨-, -, e⟩ | ⟨hw, -, e⟩ := launchRun_cases (latchRun s) <;> rw [e]
  · exact invariant_raiseError (.inr (.inr rfl)) hd ⟨rfl, rfl⟩ fun _ => nofun
  · exact invariant_raiseError (.inl rfl) hd ⟨rfl, rfl⟩ fun _ => nofun
  · exact (beforeTerminal_enterCollecting hd hw).terminal

/-- Every instruction keeps the invariant. -/
theorem Invariant.effect {s t : State} {i : Instr} (h : Invariant s) (ht : EffectOutcome s i t) : Invariant t := by
  cases ht with
  | nop | dropped => exact h
  | cfg => exact h.frame ..
  | read => exact h.withEnv _
  | rejected => exact h.reject
  | cleared hs => exact h.setDomain hs _ _ h.domain.clearDomain
  | stored v hs hlt => exact h.setDomain hs _ _ (h.domain.lutAppend v hlt)
  | started => exact invariant_launchRun_latchRun h.domain

/-! ### The CORE's turn -/

theorem symbolWidth_le (m : Mode) : symbolWidth m ≤ 64 := by cases m <;> decide

/-- The counters of a run that collects have room for one more symbol, because RTARGET has 32 bits (10_state.md R27,
R28). -/
theorem Invariant.accCount_succ_lt {s : State} (h : Invariant s) (hs : s.state = .collecting) :
    s.accCount.toNat + 1 < 2 ^ 32 := by
  obtain ⟨-, hbits⟩ := h.tally
  have hn := h.notMet hs
  have ht := s.rtarget.isLt
  unfold NotMet at hn
  cases hm : s.rmode <;> simp only [hm, symbolWidth, Config.wordWidth, Config.digitWidth] at hn hbits <;> omega

/-- The state of an accepted symbol of `w` bits, before TERMINAL (43_accumulator.md R166). -/
abbrev acceptDraw (tok : Token) (w : Nat) (u : State) : State := acceptSymbol tok w (countDraw (shiftOut w u))

section

variable {s u : State}

/-- A refill gives 64 valid bits and is counted; without one VALID and REFILL_COUNT stay (40_bit_buffer.md R101). -/
theorem refilled_counts {w : Nat} (hu : Refilled w s u) :
    (w ≤ s.valid.toNat ∧ u.valid.toNat = s.valid.toNat ∧ u.refillCount = s.refillCount) ∨
    (s.valid.toNat < w ∧ u.valid.toNat = 64 ∧ u.refillCount = s.refillCount + 1#64) := by
  cases hu with
  | enough hv => exact .inl ⟨hv, rfl, rfl⟩
  | loaded b0 b1 b2 b3 b4 b5 b6 b7 e hv => exact .inr ⟨hv, rfl, rfl⟩

/-- A draw of a symbol leaves VALID a multiple of the DIGIT width (40_bit_buffer.md R103). -/
theorem DigitBufferOk.draw (h : DigitBufferOk s) (hu : Refilled Config.digitWidth s u) :
    DigitBufferOk (Machine.shiftOut Config.digitWidth u) := by
  intro hm
  have hs : s.valid.toNat % 4 = 0 := h (by simpa [hu.frame] using hm)
  rw [shiftOut_valid_toNat (hu.valid_ge (by decide))]
  show (u.valid.toNat - 4) % 4 = 0
  obtain ⟨-, hv, -⟩ | ⟨-, hv, -⟩ := refilled_counts hu <;> omega

/-- ACC_COUNT after an accepted symbol. -/
theorem Invariant.accCount_accept {w : Nat} (h : Invariant s) (hs : s.state = .collecting) (hu : Refilled w s u)
    (tok : Token) : (acceptDraw tok w u).accCount.toNat = s.accCount.toNat + 1 := by
  have hacc : (acceptDraw tok w u).accCount = s.accCount + 1#32 := by simp [hu.frame]
  rw [hacc, BitVec.toNat_add_of_lt (h.accCount_succ_lt hs)]
  rfl

/-- ACC_BITS after an accepted symbol: the credit does not wrap, since the bits before it are below a 32-bit target or are
four times a count below one (10_state.md R27). -/
theorem Invariant.accBits_accept (h : Invariant s) (hs : s.state = .collecting)
    (hu : Refilled (symbolWidth s.rmode) s u) (tok : Token) :
    (acceptDraw tok (symbolWidth s.rmode) u).accBits.toNat = s.accBits.toNat + symbolWidth s.rmode := by
  have hacc : (acceptDraw tok (symbolWidth s.rmode) u).accBits = s.accBits + BitVec.ofNat 34 (symbolWidth s.rmode) := by
    simp [hu.frame]
  obtain ⟨-, hbits⟩ := h.tally
  have hn := h.notMet hs
  have ht := s.rtarget.isLt
  rw [hacc, BitVec.toNat_add, BitVec.toNat_ofNat]
  unfold NotMet at hn
  cases hm : s.rmode <;> simp only [hm, symbolWidth, Config.wordWidth, Config.digitWidth] at hn hbits ⊢ <;> omega

/-- An accepted symbol is one record, one count and one width more. -/
theorem Invariant.tally_accept (h : Invariant s) (hs : s.state = .collecting)
    (hu : Refilled (symbolWidth s.rmode) s u) (tok : Token) :
    TallyOk (acceptDraw tok (symbolWidth s.rmode) u) := by
  obtain ⟨hlen, hbits⟩ := h.tally
  have hm : (acceptDraw tok (symbolWidth s.rmode) u).rmode = s.rmode := by simp [hu.frame]
  have hout : (acceptDraw tok (symbolWidth s.rmode) u).out = s.out ++ [tok] := by simp [hu.frame]
  unfold TallyOk
  rw [hm, hout, h.accCount_accept hs hu, h.accBits_accept hs hu, List.length_append, hlen, hbits]
  exact ⟨rfl, (Nat.mul_succ ..).symm⟩

/-- One symbol takes a run that has not met its target at most one symbol past it. -/
theorem Invariant.within_accept (h : Invariant s) (hs : s.state = .collecting)
    (hu : Refilled (symbolWidth s.rmode) s u) (tok : Token) :
    WithinTarget (acceptDraw tok (symbolWidth s.rmode) u) := by
  have hm : (acceptDraw tok (symbolWidth s.rmode) u).rmode = s.rmode := by simp [hu.frame]
  have ht : (acceptDraw tok (symbolWidth s.rmode) u).rtarget = s.rtarget := by simp [hu.frame]
  have hn := h.notMet hs
  unfold NotMet at hn
  unfold WithinTarget
  rw [hm, ht, h.accCount_accept hs hu, h.accBits_accept hs hu]
  cases hr : s.rmode <;> rw [hr] at hn
  · exact Nat.add_lt_add_right hn _
  · exact hn

/-- An accepted WORD symbol: the counts of draws and of records rise together, and REFILL_COUNT rises with every third
(43_accumulator.md R168). -/
theorem Invariant.wordDraws_accept (h : Invariant s) (hs : s.state = .collecting)
    (hu : Refilled Config.wordWidth s u) (tok : Token) : WordDrawsOk (acceptDraw tok Config.wordWidth u) := by
  intro hm _
  obtain ⟨hdraw, hfill⟩ := h.wordDraws (by simpa [hu.frame] using hm) (.inl hs)
  have hacc := h.accCount_succ_lt hs
  have hdraw' : (acceptDraw tok Config.wordWidth u).drawCount = s.drawCount + 1#64 := by simp [hu.frame]
  have hvalid : (acceptDraw tok Config.wordWidth u).valid.toNat = u.valid.toNat - 18 :=
    shiftOut_valid_toNat (hu.valid_ge (by decide))
  have hrefill : (acceptDraw tok Config.wordWidth u).refillCount = u.refillCount := rfl
  rw [hdraw', h.accCount_accept hs hu, hvalid, hrefill]
  obtain ⟨hlt, hv, hr⟩ | ⟨hlt, hv, hr⟩ := refilled_counts (w := 18) hu <;> rw [hv, hr]
  · rw [BitVec.toNat_add, BitVec.toNat_ofNat]
    omega
  · rw [BitVec.toNat_add, BitVec.toNat_add, BitVec.toNat_ofNat]
    omega

/-- Every record stays a digit when the one appended is. -/
theorem DigitsOk.accept {w : Nat} (h : DigitsOk s) (hu : Refilled w s u) {tok : Token}
    (htok : s.rmode = .digit → tok.toNat ≤ Config.digitMax) : DigitsOk (acceptDraw tok w u) := by
  intro hm r hr
  replace hm : s.rmode = .digit := by simpa [hu.frame] using hm
  replace hr : r ∈ s.out ∨ r = tok := by simpa [hu.frame] using hr
  obtain hr | rfl := hr
  · exact h hm r hr
  · exact htok hm

/-- An accepted symbol takes a run that collects to its TERMINAL (43_accumulator.md R166). -/
theorem Invariant.beforeTerminal_accept (h : Invariant s) (hs : s.state = .collecting)
    (hu : Refilled (symbolWidth s.rmode) s u) {tok : Token} (htok : s.rmode = .digit → tok.toNat ≤ Config.digitMax) :
    BeforeTerminal (acceptDraw tok (symbolWidth s.rmode) u) where
  collecting  := by simp [hu.frame, hs]
  noError     := by simp [hu.frame, h.errCode_eq_none hs]
  buffer      := (h.buffer.draw (symbolWidth_le _) hu).congr rfl rfl
  domain      := by simpa [DomainOk, hu.frame] using h.domain
  wordDomain  := by simpa [WordRunHasDomain, hu.frame] using h.wordDomain
  tally       := h.tally_accept hs hu tok
  within      := h.within_accept hs hu tok
  digits      := h.digits.accept hu htok
  digitBuffer := by
    intro hm
    have hm : s.rmode = .digit := by simpa [hu.frame] using hm
    rw [hm] at hu ⊢
    exact h.digitBuffer.draw hu (by simpa [hu.frame] using hm)
  wordDraws   := by
    intro hm hst
    have hm' : s.rmode = .word := by simpa [hu.frame] using hm
    rw [hm'] at hu hm hst ⊢
    exact h.wordDraws_accept hs hu tok hm hst

/-- A rejected DIGIT symbol is a draw and nothing else: the run goes on as it was (43_accumulator.md R169). -/
theorem Invariant.rejectedDraw (h : Invariant s) (hm : s.rmode = .digit)
    (hu : Refilled Config.digitWidth s u) : Invariant (countDraw (shiftOut Config.digitWidth u)) where
  buffer      := (h.buffer.draw (by decide) hu).congr rfl rfl
  domain      := by simpa [DomainOk, hu.frame] using h.domain
  status      := by simpa [StatusOk, hu.frame] using h.status
  wordDomain  := by simpa [WordRunHasDomain, hu.frame] using h.wordDomain
  account     := by simpa [AccountOk, NotMet, JustMet, hu.frame] using h.account
  digits      := by simpa [DigitsOk, hu.frame] using h.digits
  digitBuffer := h.digitBuffer.draw hu
  wordDraws   := fun hw => by simp [hu.frame, hm] at hw

/-- The CORE's turn keeps the invariant. -/
theorem Invariant.core {t : State} (h : Invariant s) (hc : CoreOutcome s t) : Invariant t := by
  cases hc with
  | pass => exact h
  | exhausted e => exact invariant_raiseError (.inr (.inl rfl)) h.domain h.tally h.digits
  | word u tok hs hm hu =>
    have hb := h.beforeTerminal_accept (u := u) (tok := tok) hs (by rwa [hm]) (by simp [hm])
    rw [hm] at hb
    exact hb.terminal
  | digit u d hs hm hu hd hle =>
    have hb := h.beforeTerminal_accept (u := u) (tok := digitRecord d) hs (by rwa [hm])
      fun _ => by simpa [digitRecord] using by omega
    rw [hm] at hb
    exact hb.terminal
  | rejected u _ hm hu => exact h.rejectedDraw hm hu

/-- Every action keeps the invariant. -/
theorem Invariant.action {t : State} {a : Action} (h : Invariant s) (ho : ActionOutcome s a t) : Invariant t := by
  cases ho with
  | reset => exact invariant_resetWith _
  | core l hc => exact (h.withEnv _).core hc
  | instruction i l ht => exact (h.withEnv _).effect ht
  | illegal l => exact (h.withEnv _).reject
  | input e => exact h.withEnv e

end

end Sys2Proof.Safety

namespace Sys2Proof.Proofs

open Sys2Proof.Machine Sys2Proof.Safety

/-- Settles O51: the values of R43 meet every part of the invariant. -/
theorem invariantHoldsAtReset : Obligations.InvariantHoldsAtReset := invariant_resetWith Env.initial

/-- Settles O52: by the action the step performs; START and an accepted symbol establish `BeforeTerminal`, from which
TERMINAL leaves the invariant. -/
theorem everyStepKeepsInvariant : Obligations.EveryStepKeepsInvariant :=
  fun _ _ h hst => h.action (step_actionOutcome hst)

end Sys2Proof.Proofs
end

section
/-! Who writes what: the frames of the CORE's turn and of the instructions, and the statements about STATE, REJ and OUT that
follow (10_state.md R24, R32, R35, R42, R43). -/

namespace Sys2Proof.Machine

open Sys2Proof.Safety

/-- The CORE writes neither the configuration, the latched parameters, REJ nor the LUT (10_state.md R42). -/
theorem CoreOutcome.unwritten {s t : State} (h : CoreOutcome s t) :
    t.cfgMode = s.cfgMode ∧ t.cfgVerbose = s.cfgVerbose ∧ t.cfgTarget = s.cfgTarget ∧ t.rmode = s.rmode ∧
    t.rtarget = s.rtarget ∧ t.rej = s.rej ∧ t.domain = s.domain ∧ t.domainCount = s.domainCount := by
  cases h with
  | pass => simp
  | exhausted => simp
  | word u tok hs hm hu => simp [hu.frame]
  | digit u d hs hm hu => simp [hu.frame]
  | rejected u hs hm hu => simp [hu.frame]

/-- A CORE turn leaves STATE, or takes it from COLLECTING to DONE or to ERROR (10_state.md R24). -/
theorem CoreOutcome.state_cases {s t : State} (h : CoreOutcome s t) :
    t.state = s.state ∨ (s.state = .collecting ∧ (t.state = .done ∨ t.state = .error)) := by
  cases h with
  | pass => exact .inl rfl
  | exhausted e hs => exact .inr ⟨hs, .inr rfl⟩
  | word u tok hs hm hu => rw [terminal_state]; split <;> simp [hu.frame, hs]
  | digit u d hs hm hu => rw [terminal_state]; split <;> simp [hu.frame, hs]
  | rejected u hs hm hu => simp [hu.frame]

/-- A CORE turn leaves OUT, or appends one record (10_state.md R35). -/
theorem CoreOutcome.out_cases {s t : State} (h : CoreOutcome s t) : t.out = s.out ∨ ∃ r, t.out = s.out ++ [r] := by
  cases h with
  | pass => exact .inl rfl
  | exhausted => exact .inl rfl
  | word u tok hs hm hu => exact .inr ⟨tok, by simp [hu.frame]⟩
  | digit u d hs hm hu => exact .inr ⟨digitRecord d, by simp [hu.frame]⟩
  | rejected u hs hm hu => exact .inl (by simp [hu.frame])

/-- The checks of START write STATE and ERR_CODE, and scrub BUF and VALID where they fail. -/
theorem launchRun_frame (s : State) :
    launchRun s = { s with
      buf := (launchRun s).buf, valid := (launchRun s).valid, state := (launchRun s).state,
      errCode := (launchRun s).errCode } := by
  obtain ⟨-, -, e⟩ | ⟨-, -, e⟩ | ⟨-, -, e⟩ := launchRun_cases s <;> rw [e]
  · rfl
  · rfl
  · unfold terminal; split <;> rfl

/-- An accepted START never ends in IDLE. -/
theorem launchRun_state_ne_idle (s : State) : (launchRun s).state ≠ .idle := by
  obtain ⟨-, -, e⟩ | ⟨-, -, e⟩ | ⟨-, -, e⟩ := launchRun_cases s <;> rw [e]
  · simp
  · simp
  · rw [terminal_state]; split <;> simp

/-- An accepted START empties OUT. -/
theorem launchRun_latchRun_out (s : State) : (launchRun (latchRun s)).out = [] := by
  rw [launchRun_frame]; rfl

/-- An instruction is an accepted START, or it leaves STATE and OUT and does not clear REJ. -/
theorem EffectOutcome.run_cases {i : Instr} {s t : State} (h : EffectOutcome s i t) :
    (i = .start ∧ s.state ≠ .collecting ∧ t = launchRun (latchRun s)) ∨
    (t.state = s.state ∧ t.out = s.out ∧ (s.rej = true → t.rej = true)) := by
  cases h with
  | started hs => exact .inl ⟨rfl, hs, rfl⟩
  | rejected => exact .inr ⟨rfl, rfl, fun _ => rfl⟩
  | nop | cfg | read | cleared | stored | dropped => exact .inr ⟨rfl, rfl, id⟩

end Sys2Proof.Machine

namespace Sys2Proof.Proofs

open Sys2Proof.Machine Sys2Proof.Safety

/-- Settles O47: the values of R43, one by one. -/
theorem resetStateValues : Obligations.ResetStateValues :=
  ⟨rfl, rfl, rfl, rfl, rfl, rfl, rfl, rfl, rfl, rfl, rfl, rfl, rfl, rfl, rfl, Memory.read_nil, rfl⟩

/-- Settles O10: by the action; among the instructions STATE changes only by an accepted START. -/
theorem stateTransitionsAreTheSpecs : Obligations.StateTransitionsAreTheSpecs := by
  intro s t hst hne
  have ho := step_actionOutcome hst
  generalize actionOf s = a at ho ⊢
  cases ho with
  | reset => exact .inr (.inr ⟨rfl, rfl⟩)
  | core l hc =>
    obtain he | h := hc.state_cases
    · exact absurd he hne
    · exact .inr (.inl ⟨rfl, h⟩)
  | instruction i l ht =>
    obtain ⟨rfl, hs, rfl⟩ | ⟨hstate, -, -⟩ := ht.run_cases
    · exact .inl ⟨rfl, hs, launchRun_state_ne_idle _⟩
    · exact absurd hstate hne
  | illegal l => exact absurd rfl hne
  | input e => exact absurd rfl hne

/-- Settles O12: the other actions leave REJ or set it. -/
theorem rejIsSticky : Obligations.RejIsSticky := by
  intro s t hst hrej hclear
  have ho := step_actionOutcome hst
  generalize actionOf s = a at ho ⊢
  cases ho with
  | reset => exact .inl rfl
  | core l hc =>
    obtain ⟨-, -, -, -, -, hr, -, -⟩ := hc.unwritten
    exact absurd (hclear.symm.trans (hr.trans hrej)) nofun
  | instruction i l ht =>
    obtain ⟨rfl, hs, -⟩ | ⟨-, -, hr⟩ := ht.run_cases
    · exact .inr ⟨rfl, hs⟩
    · exact absurd (hclear.symm.trans (hr hrej)) nofun
  | illegal l => exact absurd hclear nofun
  | input e => exact absurd (hclear.symm.trans hrej) nofun

/-- Settles O46: only the CORE appends, and only an accepted START or a reset empties OUT. -/
theorem outGrowsByAppending : Obligations.OutGrowsByAppending := by
  intro s t hst
  have ho := step_actionOutcome hst
  generalize actionOf s = a at ho ⊢
  cases ho with
  | reset => exact .inr (.inr ⟨rfl, .inl rfl⟩)
  | core l hc =>
    obtain h | h := hc.out_cases
    · exact .inl h
    · exact .inr (.inl ⟨rfl, h⟩)
  | instruction i l ht =>
    obtain ⟨rfl, hs, rfl⟩ | ⟨-, hout, -⟩ := ht.run_cases
    · exact .inr (.inr ⟨launchRun_latchRun_out _, .inr ⟨rfl, hs⟩⟩)
    · exact .inl hout
  | illegal l => exact .inl rfl
  | input e => exact .inl rfl

/-- Settles O9: by the action, and for an instruction by what it can leave. -/
theorem onlyNamedWritersWrite : Obligations.OnlyNamedWritersWrite := by
  intro s t hst
  have ho := step_actionOutcome hst
  generalize actionOf s = a at ho ⊢
  cases ho with
  | reset => trivial
  | core l hc =>
    obtain ⟨hmode, hverb, htar, hrm, hrt, hrej, hdom, hcount⟩ := hc.unwritten
    cases t
    simp_all
  | illegal l => rfl
  | input e => rfl
  | instruction i l ht =>
    cases ht with
    | nop | cfg | read | cleared | stored | dropped => rfl
    | rejected _ hs hi =>
      have hs : s.state = .collecting := hs
      obtain rfl | ⟨v, rfl⟩ | rfl := hi
      · rfl
      · rfl
      · simp only [if_pos hs]
        rfl
    | started hs =>
      have hs : s.state ≠ .collecting := hs
      obtain ⟨hbuf, hvalid⟩ := launchRun_latchRun_buffer (withAgenda l s)
      have hf := launchRun_frame (latchRun (withAgenda l s))
      rw [hbuf, hvalid] at hf
      simp only [if_neg hs]
      rw [hf]
      rfl

end Sys2Proof.Proofs
end

section
/-! Two runs side by side: what the HOST can see of two states that differ in what is hidden (60_exceptions.md R235), and a
CORE turn before and after a CFG (43_accumulator.md R173). -/

namespace Sys2Proof.Machine

open Sys2Proof.Safety

/-! ### Hidden state -/

/-- START's checks take the same course whatever BUF and the entries hold. -/
theorem visible_launchRun (s : State) : visible (launchRun s) = visible (launchRun (visible s)) := by
  obtain ⟨hm, hd, e⟩ | ⟨hw, hr, e⟩ | ⟨hw, hr, e⟩ := launchRun_cases s
  · have e' : launchRun (visible s) = raiseError errInsufficientDomain (visible s) := if_pos ⟨hm, hd⟩
    rw [e, e']
    rfl
  · have e' : launchRun (visible s) = raiseError errSourceUnavailable (visible s) := (if_neg hw).trans (if_pos hr)
    rw [e, e']
    rfl
  · have e' : launchRun (visible s) = terminal (enterCollecting (visible s)) :=
      (if_neg hw).trans (if_neg (ne_of_eq_of_ne hr (by decide)))
    have hmet : targetMet (enterCollecting (visible s)) = targetMet (enterCollecting s) := rfl
    rw [e, e']
    unfold terminal
    rw [hmet]
    split <;> rfl

/-- What an accepted LUT_PUSH leaves to see does not depend on the entries there are. -/
theorem visible_pushToken (v : Token) (s : State) : visible (pushToken v s) = visible (pushToken v (visible s)) := by
  obtain ⟨hlt, e⟩ | ⟨hge, e⟩ := pushToken_cases v s
  · have e' : pushToken v (visible s) = lutAppend v (visible s) := if_pos hlt
    rw [e, e']
    rfl
  · have e' : pushToken v (visible s) = visible s := if_neg (Nat.not_lt_of_ge hge)
    rw [e, e']
    rfl

/-- What an instruction leaves to see depends on what can be seen before it: it reads neither BUF nor a LUT entry. -/
theorem visible_effect (i : Instr) (s : State) : visible (effect i s) = visible (effect i (visible s)) := by
  by_cases hs : s.state = .collecting
  · have hs' : (visible s).state = .collecting := hs
    cases i with
    | nop | cfg | read => rfl
    | lutClear => rw [effect_lutClear_rejected hs, effect_lutClear_rejected hs']; rfl
    | lutPush v => rw [effect_lutPush_rejected v hs, effect_lutPush_rejected v hs']; rfl
    | start => rw [effect_start_rejected hs, effect_start_rejected hs']; rfl
  · have hs' : (visible s).state ≠ .collecting := hs
    cases i with
    | nop | cfg | read => rfl
    | lutClear => rw [effect_lutClear_accepted hs, effect_lutClear_accepted hs']; rfl
    | lutPush v => rw [effect_lutPush_accepted v hs, effect_lutPush_accepted v hs', visible_pushToken]
    | start =>
      rw [effect_start_accepted hs, effect_start_accepted hs', visible_launchRun,
        visible_launchRun (latchRun (visible s))]
      rfl

/-! ### A CFG beside the CORE's turn -/

/-- A draw from a refilled buffer is what TAKE_SYMBOL does. -/
theorem Refilled.takeSymbol_eq {w : Nat} {s u : State} (hu : Refilled w s u) (hw : w ≤ 64) :
    takeSymbol w s = drawLow w u := by
  cases hu with
  | enough hv => exact takeSymbol_enough hw hv
  | loaded b0 b1 b2 b3 b4 b5 b6 b7 e hv hr => exact takeSymbol_refill hw hv hr

/-- A run that collects and has no STEP enabled waits for the RNG (43_accumulator.md R171). -/
theorem waiting_of_stepEnabled_false {s : State} (hs : s.state = .collecting) (h : stepEnabled s = false) :
    s.valid.toNat < symbolWidth s.rmode ∧ rngRead s.env = none := by
  simpa [stepEnabled, needsRefill, hs] using h

/-- A short answer to a draw ends the turn in the error entry, in either mode. -/
theorem coreTurn_exhausted {s : State} {e : Env} (hs : s.state = .collecting)
    (hv : s.valid.toNat < symbolWidth s.rmode) (hr : rngRead s.env = some (.short, e)) :
    coreTurn s = .next (raiseError errSourceExhausted (withEnv e s)) := by
  cases hm : s.rmode with
  | word =>
    rw [hm] at hv
    rw [coreTurn_word hs hm, wordStep, takeSymbol_short (w := Config.wordWidth) (by decide) hv hr]
  | digit =>
    rw [hm] at hv
    rw [coreTurn_digit hs hm, digitStep, takeSymbol_short (w := Config.digitWidth) (by decide) hv hr]

/-- A draw the RNG has not answered leaves the turn without a STEP, in either mode. -/
theorem coreTurn_waiting {s : State} (hs : s.state = .collecting) (hv : s.valid.toNat < symbolWidth s.rmode)
    (hr : rngRead s.env = none) : coreTurn s = .next s := by
  cases hm : s.rmode with
  | word =>
    rw [hm] at hv
    rw [coreTurn_word hs hm, wordStep, takeSymbol_waiting (w := Config.wordWidth) (by decide) hv hr]
  | digit =>
    rw [hm] at hv
    rw [coreTurn_digit hs hm, digitStep, takeSymbol_waiting (w := Config.digitWidth) (by decide) hv hr]

/-- The CORE's turn leaves what `CoreOutcome` says it can: the converse of `coreTurn_cases`. -/
theorem CoreOutcome.coreTurn_eq {s t : State} (h : CoreOutcome s t) : coreTurn s = .next t := by
  cases h with
  | pass hp =>
    by_cases hs : s.state = .collecting
    · obtain ⟨hv, hr⟩ := waiting_of_stepEnabled_false hs hp
      exact coreTurn_waiting hs hv hr
    · exact coreTurn_not_collecting hs
  | exhausted e hs hv hr => exact coreTurn_exhausted hs hv hr
  | word u tok hs hm hu ht =>
    have hmap : mapWord (shiftOut Config.wordWidth u) (u.buf.setWidth 18) = some tok := by
      rw [mapWord_congr (s := s) (by simp [hu.frame]) (by simp [hu.frame]), mapWord, ht]
    rw [coreTurn_word hs hm, wordStep, hu.takeSymbol_eq (by decide), drawLow]
    simp only [acceptWord, hmap]
  | digit u d hs hm hu hd hle =>
    have hmap : mapDigit (u.buf.setWidth 4) = some d := by rw [hd]; exact if_pos hle
    rw [coreTurn_digit hs hm, digitStep, hu.takeSymbol_eq (by decide), drawLow]
    simp only [acceptOrRejectDigit, hmap]
  | rejected u hs hm hu hlt =>
    have hmap : mapDigit (u.buf.setWidth 4) = none := if_neg (Nat.not_le_of_lt hlt)
    rw [coreTurn_digit hs hm, digitStep, hu.takeSymbol_eq (by decide), drawLow]
    simp only [acceptOrRejectDigit, hmap]

/-- A refill does not look at CFG's registers. -/
theorem Refilled.setConfig {w : Nat} {s u : State} (hu : Refilled w s u) (m : Mode) (v : Bool) (x : Target) :
    Refilled w (setConfig m v x s) (setConfig m v x u) := by
  cases hu with
  | enough hv => exact .enough hv
  | loaded b0 b1 b2 b3 b4 b5 b6 b7 e hv hr => exact .loaded b0 b1 b2 b3 b4 b5 b6 b7 e hv hr

/-- Nor does TERMINAL. -/
theorem setConfig_terminal (m : Mode) (v : Bool) (x : Target) (s : State) :
    setConfig m v x (terminal s) = terminal (setConfig m v x s) := by
  have h : targetMet (setConfig m v x s) = targetMet s := rfl
  unfold terminal
  rw [h]
  split <;> rfl

/-- The CORE does not look at CFG's registers, so a CFG before its turn shows only in those. -/
theorem CoreOutcome.setConfig {s t : State} (h : CoreOutcome s t) (m : Mode) (v : Bool) (x : Target) :
    CoreOutcome (setConfig m v x s) (setConfig m v x t) := by
  cases h with
  | pass hp => exact .pass hp
  | exhausted e hs hv hr => exact .exhausted e hs hv hr
  | word u tok hs hm hu ht =>
    rw [setConfig_terminal]
    exact CoreOutcome.word (s := Machine.setConfig m v x s) _ tok hs hm (hu.setConfig m v x) ht
  | digit u d hs hm hu hd hle =>
    rw [setConfig_terminal]
    exact CoreOutcome.digit (s := Machine.setConfig m v x s) _ d hs hm (hu.setConfig m v x) hd hle
  | rejected u hs hm hu hlt =>
    exact CoreOutcome.rejected (s := Machine.setConfig m v x s) _ hs hm (hu.setConfig m v x) hlt

end Sys2Proof.Machine

namespace Sys2Proof.Proofs

open Sys2Proof.Machine Sys2Proof.Safety

/-- Settles O17: each instruction's effect is determined, as far as it can be seen, by what can be seen before it. -/
theorem hostSeesNeitherBufNorEntries : Obligations.HostSeesNeitherBufNorEntries := by
  intro i s₁ s₂ t₁ t₂ hv h₁ h₂
  rw [exec_eq] at h₁ h₂
  cases h₁
  cases h₂
  rw [visible_effect i s₁, visible_effect i s₂, hv]

/-- Settles O18: the CORE's turn takes the same course from the state after the CFG. -/
theorem cfgCommutesWithCoreTurn : Obligations.CfgCommutesWithCoreTurn := by
  intro m v d x s t s' ht hs'
  rw [exec_eq] at hs'
  cases hs'
  exact ⟨_, exec_eq _ t, ((coreTurn_cases ht).setConfig _ _ _).coreTurn_eq⟩

end Sys2Proof.Proofs
end

section
/-! The order of the steps, the LUT during a run, and progress (20_memory.md R53, R60, R61, R64). -/

namespace Sys2Proof.Machine

/-- While a run collects, no instruction changes the LUT or its count: the commands that would are rejected
(30_encoding.md R78). -/
theorem EffectOutcome.domain_eq {i : Instr} {s t : State} (h : EffectOutcome s i t) (hs : s.state = .collecting) :
    t.domain = s.domain ∧ t.domainCount = s.domainCount := by
  cases h with
  | nop | cfg | read | rejected | dropped => exact ⟨rfl, rfl⟩
  | cleared hne | stored _ hne | started hne => exact absurd hs hne

end Sys2Proof.Machine

namespace Sys2Proof.Safety

open Sys2Proof.Machine

/-- A read of the LUT below DOMAIN_COUNT finds a value (20_memory.md R53). -/
theorem DomainOk.lutRead_eq_some {s : State} (h : DomainOk s) {x : WordSymbol}
    (hx : x.toNat < s.domainCount.toNat) : ∃ v, lutRead s x = some v := by
  obtain ⟨-, -, hread⟩ := h
  rw [lutRead, if_pos hx]
  exact hread _ hx

/-- In a WORD run every symbol has its LUT entry, since the LUT is full (41_domain_mapper.md R121). -/
theorem Invariant.lutRead_eq_some {s : State} (h : Invariant s) (hs : s.state = .collecting) (hm : s.rmode = .word)
    (x : WordSymbol) : ∃ v, lutRead s x = some v :=
  h.domain.lutRead_eq_some (x.isLt.trans_eq (h.wordDomain hs hm).symm)

/-- The CORE's turn has an outcome in every state with the invariant. -/
theorem Invariant.exists_coreOutcome {s : State} (h : Invariant s) : ∃ t, CoreOutcome s t := by
  by_cases hs : s.state = .collecting
  · obtain ⟨u, hu, -⟩ | ⟨hv, e, hr, -⟩ | ⟨hv, hr, -⟩ := takeSymbol_cases (symbolWidth_le s.rmode) s
    · cases hm : s.rmode with
      | word =>
        rw [hm] at hu
        obtain ⟨tok, htok⟩ := h.lutRead_eq_some hs hm (u.buf.setWidth 18)
        exact ⟨_, .word u tok hs hm hu htok⟩
      | digit =>
        rw [hm] at hu
        obtain hlt | hle := Nat.lt_or_ge 9 (u.buf.setWidth 4).toNat
        · exact ⟨_, .rejected u hs hm hu hlt⟩
        · exact ⟨_, .digit u _ hs hm hu rfl hle⟩
    · exact ⟨_, .exhausted e hs hv hr⟩
    · exact ⟨s, .pass (stepEnabled_false_of_waiting hv hr)⟩
  · exact ⟨s, .pass (by simp [stepEnabled, hs])⟩

/-- From a state with the invariant the CORE's turn answers a next state. -/
theorem Invariant.exists_coreTurn {s : State} (h : Invariant s) : ∃ t, coreTurn s = .next t := by
  obtain ⟨t, ht⟩ := h.exists_coreOutcome
  exact ⟨t, ht.coreTurn_eq⟩

/-- A port access answers a next state in every state. -/
theorem exists_performAccess (p : PortAccess) (s : State) : ∃ t, performAccess p s = .next t := by
  unfold performAccess
  cases decode p with
  | ok i => exact ⟨_, exec_eq i s⟩
  | error r => exact ⟨_, rfl⟩

/-- From a state with the invariant every action of the agenda answers a next state. -/
theorem Invariant.exists_takeTurn {s : State} (h : Invariant s) (x : Turn) : ∃ t, takeTurn x s = .next t := by
  cases x with
  | host p => exact exists_performAccess p s
  | core => exact h.exists_coreTurn
  | rngDelivers | setRngAvail | assertReset => exact ⟨_, rfl⟩

end Sys2Proof.Safety

namespace Sys2Proof.Proofs

open Sys2Proof.Machine Sys2Proof.Safety

/-- Settles O7: the next action is the access at the head of the agenda. -/
theorem stepRunsDecodedInstruction : Obligations.StepRunsDecodedInstruction :=
  fun _ _ _ hr ha => ⟨fun _ hd _ => step_of_instruction hr ha hd, fun _ hd => step_of_illegal hr ha hd⟩

/-- Settles O8: the next action is the CORE's, pending or by default. -/
theorem stepGivesCoreItsTurn : Obligations.StepGivesCoreItsTurn :=
  fun _ hr => ⟨step_of_no_agenda hr, fun _ ha => step_of_turn hr ha⟩

/-- Settles O25: the CORE and the inputs never write the LUT, and a running run rejects the commands that do. -/
theorem domainIsFixedDuringRun : Obligations.DomainIsFixedDuringRun := by
  intro s t hs hr hst
  cases step_cases hst with
  | reset hreset => exact absurd (hr.symm.trans hreset) nofun
  | coreAlone _ _ hc | core _ _ _ hc =>
    obtain ⟨-, -, -, -, -, -, hdom, hcount⟩ := hc.unwritten
    exact ⟨hdom, hcount⟩
  | instruction p i rest => exact (effect_cases i (withAgenda rest s)).domain_eq hs
  | illegal | input => exact ⟨rfl, rfl⟩

/-- Settles O53: RESET, the CORE alone, or the head of the agenda, at a state that still has the invariant. -/
theorem invariantStatesNeverStop : Obligations.InvariantStatesNeverStop := by
  intro s h
  cases hr : s.env.resetIn with
  | true => exact ⟨_, step_of_reset hr⟩
  | false =>
    cases ha : s.env.agenda with
    | nil => rw [step_of_no_agenda hr ha]; exact h.exists_coreTurn
    | cons x rest => rw [step_of_turn hr ha]; exact (h.withEnv _).exists_takeTurn x

end Sys2Proof.Proofs
end

section
/-! The command word and its fields, the decoder case by case, and the table of opcodes (30_encoding.md R71 to R79). -/

namespace Sys2Proof

/-! ### Fields of a word -/

/-- A bit inside a zero field is clear. -/
theorem getLsbD_eq_false_of_within {k a n i : Nat} {w : BitVec k} (h : w.extractLsb' a n = 0#n) (hai : a ≤ i)
    (hin : i < a + n) : w.getLsbD i = false := by
  have hlt : i - a < n := by omega
  simpa [Nat.add_sub_cancel' hai, hlt] using congrArg (·.getLsbD (i - a)) h

/-- A field inside a zero field is zero. -/
theorem extractLsb'_eq_zero_of_within {k a n b m : Nat} {w : BitVec k} (h : w.extractLsb' a n = 0#n) (hab : a ≤ b)
    (hbm : b + m ≤ a + n) : w.extractLsb' b m = 0#m := by
  apply BitVec.eq_of_getLsbD_eq
  intro i hi
  rw [BitVec.getLsbD_extractLsb', getLsbD_eq_false_of_within h (by omega) (by omega), Bool.and_false, BitVec.getLsbD_zero]

/-- IMM as a number. -/
theorem immField_toNat (w : Word64) : (immField w).toNat = w.toNat / 2 ^ 32 := by
  rw [immField, BitVec.extractLsb'_toNat, Nat.shiftRight_eq_div_pow]
  exact Nat.mod_eq_of_lt (by have := w.isLt; omega)

section

variable {w : Word64} {op : BitVec 4}

/-- A word whose bits [31:7] are zero is the one its fields build. -/
theorem commandWord_of_zField (hop : opField w = op) (hz : w.extractLsb' 7 25 = 0#25) :
    commandWord (immField w) (w.getLsbD 6) (w.getLsbD 5) (w.getLsbD 4) op = w := by
  rw [← hop, ← word_eq_of_fields w hz]

/-- A word whose bits [31:4] are zero is the one IMM and OP build. -/
theorem commandWord_of_lowBits (hop : opField w = op) (hz : w.extractLsb' 4 28 = 0#28) :
    commandWord (immField w) false false false op = w := by
  have hbit (i : Nat) (h4 : 4 ≤ i) (h32 : i < 4 + 28) : w.getLsbD i = false := getLsbD_eq_false_of_within hz h4 h32
  have hw := commandWord_of_zField hop (extractLsb'_eq_zero_of_within hz (by decide) (by decide))
  rwa [hbit 4 (by decide) (by decide), hbit 5 (by decide) (by decide), hbit 6 (by decide) (by decide)] at hw

/-- A word whose bits [63:4] are zero is the one OP alone builds. -/
theorem commandWord_of_highBits (hop : opField w = op) (hz : w.extractLsb' 4 60 = 0#60) :
    commandWord 0#32 false false false op = w := by
  have himm : immField w = 0#32 := extractLsb'_eq_zero_of_within hz (by decide) (by decide)
  rw [← himm]
  exact commandWord_of_lowBits hop (extractLsb'_eq_zero_of_within hz (by decide) (by decide))

/-! ### The decoder -/

theorem decodeCommand_nop (hop : opField w = 0#4) (hz : w.extractLsb' 4 60 = 0#60) : decodeCommand w = .ok .nop := by
  simp [decodeCommand, hop, hz]

theorem decodeCommand_cfg (hop : opField w = 1#4) (hz : w.extractLsb' 7 25 = 0#25) :
    decodeCommand w = .ok (.cfg (Mode.ofBit (w.getLsbD 4)) (w.getLsbD 5) (w.getLsbD 6) (immField w)) := by
  simp [decodeCommand, hop, hz]

theorem decodeCommand_lutClear (hop : opField w = 2#4) (hz : w.extractLsb' 4 60 = 0#60) :
    decodeCommand w = .ok .lutClear := by
  simp [decodeCommand, hop, hz]

theorem decodeCommand_lutPush (hop : opField w = 3#4) (hz : w.extractLsb' 4 28 = 0#28) :
    decodeCommand w = .ok (.lutPush (immField w)) := by
  simp [decodeCommand, hop, hz]

theorem decodeCommand_start (hop : opField w = 4#4) (hz : w.extractLsb' 4 60 = 0#60) :
    decodeCommand w = .ok .start := by
  simp [decodeCommand, hop, hz]

end

/-- What the decoder can answer: an instruction the word encodes, or the rejection of an ILLEGAL word. -/
inductive DecodeOutcome (w : Word64) : Except DecodeReject Instr → Prop
  | accepted (i : Instr) (h : encode i = .command w) : DecodeOutcome w (.ok i)
  | rejected (r : DecodeReject) (h : Safety.IllegalWord w) : DecodeOutcome w (.error r)

theorem decodeCommand_outcome (w : Word64) : DecodeOutcome w (decodeCommand w) := by
  have hop {n : Nat} (h : (opField w).toNat = n) : opField w = BitVec.ofNat 4 n := by
    rw [← h, BitVec.ofNat_toNat, BitVec.setWidth_eq]
  unfold decodeCommand
  split
  case h_1 h =>
    split
    case isTrue hz => exact .accepted _ (congrArg _ (commandWord_of_highBits (hop h) hz))
    case isFalse hz => exact .rejected _ (.inr (.inl ⟨.inl h, hz⟩))
  case h_2 h =>
    split
    case isTrue hz =>
      refine .accepted _ ?_
      rw [encode, Mode.bit_ofBit, commandWord_of_zField (hop h) hz]
    case isFalse hz => exact .rejected _ (.inr (.inr (.inl ⟨h, hz⟩)))
  case h_3 h =>
    split
    case isTrue hz => exact .accepted _ (congrArg _ (commandWord_of_highBits (hop h) hz))
    case isFalse hz => exact .rejected _ (.inr (.inl ⟨.inr (.inl h), hz⟩))
  case h_4 h =>
    split
    case isTrue hz => exact .accepted _ (congrArg _ (commandWord_of_lowBits (hop h) hz))
    case isFalse hz => exact .rejected _ (.inr (.inr (.inr ⟨h, hz⟩)))
  case h_5 h =>
    split
    case isTrue hz => exact .accepted _ (congrArg _ (commandWord_of_highBits (hop h) hz))
    case isFalse hz => exact .rejected _ (.inr (.inl ⟨.inr (.inr h), hz⟩))
  case h_6 h0 h1 h2 h3 h4 =>
    rw [imp_false] at h0 h1 h2 h3 h4
    have hge : 5 ≤ (opField w).toNat := by omega
    exact .rejected _ (.inl hge)

/-- No instruction is encoded by an ILLEGAL word. -/
theorem not_illegalWord_of_encode {i : Instr} {w : Word64} (h : encode i = .command w) : ¬ Safety.IllegalWord w := by
  have hop (imm : BitVec 32) (d v m : Bool) (op : BitVec 4) :
      (commandWord imm d v m op).extractLsb' 0 4 = op := opField_commandWord imm d v m op
  cases i with
  | nop | cfg | lutClear | lutPush | start => cases h; simp [Safety.IllegalWord, hop]
  | read => cases h

/-! ### The table of 30_encoding.md R76 -/

/-- A field the row's mask covers has the row's value in every word the row matches. -/
theorem OpcodeRow.field_eq_of_matchesWord {r : OpcodeRow} {w : Word64} (h : r.matchesWord w = true) (a n : Nat)
    (hm : r.mask.extractLsb' a n = BitVec.allOnes n) : w.extractLsb' a n = r.pattern.extractLsb' a n := by
  rw [OpcodeRow.matchesWord, beq_iff_eq] at h
  rw [← h, BitVec.extractLsb'_and, hm, BitVec.and_allOnes]

/-- A word that a row matches decodes: the row fixes OP and the must-be-zero bits. -/
theorem decodes_of_matchesWord {r : OpcodeRow} (hr : r ∈ opcodeRows) {w : Word64} (h : r.matchesWord w = true) :
    ∃ i, decodeCommand w = .ok i := by
  have field := OpcodeRow.field_eq_of_matchesWord h
  simp only [opcodeRows, List.mem_cons, List.not_mem_nil, or_false] at hr
  obtain rfl | rfl | rfl | rfl | rfl := hr
  · exact ⟨_, decodeCommand_nop (field 0 4 rfl) (field 4 60 rfl)⟩
  · exact ⟨_, decodeCommand_cfg (field 0 4 rfl) (field 7 25 rfl)⟩
  · exact ⟨_, decodeCommand_lutClear (field 0 4 rfl) (field 4 60 rfl)⟩
  · exact ⟨_, decodeCommand_lutPush (field 0 4 rfl) (field 4 28 rfl)⟩
  · exact ⟨_, decodeCommand_start (field 0 4 rfl) (field 4 60 rfl)⟩

/-- Every row's mask covers OP, and no two rows have the same OP. -/
theorem opcodeRows_op : (∀ r ∈ opcodeRows, r.mask.extractLsb' 0 4 = BitVec.allOnes 4) ∧
    ∀ r₁ ∈ opcodeRows, ∀ r₂ ∈ opcodeRows, r₁.pattern.extractLsb' 0 4 = r₂.pattern.extractLsb' 0 4 → r₁ = r₂ := by
  decide

/-- Each instruction's encoding matches its own row of the table. -/
theorem encoding_matches_table (i : Instr) : Laws.EncodingMatchesTable.Statement i := by
  cases i with
  | nop => exact Laws.EncodingMatchesTable.nop
  | cfg m v d t => exact Laws.EncodingMatchesTable.cfg m v d t
  | lutClear => exact Laws.EncodingMatchesTable.lutClear
  | lutPush t => exact Laws.EncodingMatchesTable.lutPush t
  | start => exact Laws.EncodingMatchesTable.start
  | read a => exact Laws.EncodingMatchesTable.read a

/-- The word an instruction encodes to is well formed: its own row matches it. -/
theorem wellFormedWord_of_encode {i : Instr} {w : Word64} (h : encode i = .command w) : wellFormedWord w = true := by
  have hrow := encoding_matches_table i
  rw [Laws.EncodingMatchesTable.Statement, h] at hrow
  obtain ⟨r, hr, -, hw⟩ := hrow
  exact List.any_eq_true.mpr ⟨r, hr, hw⟩

end Sys2Proof

namespace Sys2Proof.Machine

/-! ### A command word on the port, by what it decodes to -/

section

variable {w : Word64}

theorem performAccess_command_of_ok {i : Instr} (hd : decodeCommand w = .ok i) (s : State) :
    performAccess (.command w) s = .next (effect i s) := by
  rw [performAccess, decode, hd]
  exact exec_eq i s

theorem performAccess_command_of_error {r : DecodeReject} (hd : decodeCommand w = .error r) (s : State) :
    performAccess (.command w) s = .next (reject s) := by
  rw [performAccess, decode, hd]

end

/-- The target a CFG writes, as a number (44_control_and_report.md R192). -/
theorem cfgTargetOperand_ofBit_toNat (b d : Bool) (t : Target) :
    (cfgTargetOperand (Mode.ofBit b) d t).toNat = if d = true then (if b = true then 8 else 64) else t.toNat := by
  cases d <;> cases b <;> rfl

end Sys2Proof.Machine

namespace Sys2Proof.Proofs

open Sys2Proof.Machine

/-- Settles O2: the fields of the encoded word are the operands, and its must-be-zero bits are zero. -/
theorem decodeOfEncodeIsInstruction : Obligations.DecodeOfEncodeIsInstruction := by
  intro i
  cases i with
  | nop => exact decodeCommand_nop (opField_commandWord ..) (highBits_commandWord ..)
  | cfg m v d t =>
    refine (decodeCommand_cfg (opField_commandWord ..) (zField_commandWord ..)).trans ?_
    simp
  | lutClear => exact decodeCommand_lutClear (opField_commandWord ..) (highBits_commandWord ..)
  | lutPush t =>
    refine (decodeCommand_lutPush (opField_commandWord ..) (lowBits_commandWord ..)).trans ?_
    rw [immField_commandWord]
  | start => exact decodeCommand_start (opField_commandWord ..) (highBits_commandWord ..)
  | read a => rfl

/-- Settles O3: the decoder accepts no command word but the encoding of its answer. -/
theorem encodeOfDecodeIsAccess : Obligations.EncodeOfDecodeIsAccess := by
  intro p i h
  cases p with
  | command w =>
    have ho : DecodeOutcome w (.ok i) := h ▸ decodeCommand_outcome w
    cases ho with
    | accepted _ henc => exact henc
  | readAddress a => cases h; rfl

/-- Settles O4: what decodes is an encoding, which its own row matches; a row that matches fixes OP, which no other row
has, and the must-be-zero bits. -/
theorem decodedWordsAreTableWords : Obligations.DecodedWordsAreTableWords := by
  intro w
  refine ⟨⟨?_, ?_⟩, ?_⟩
  · rintro ⟨i, hi⟩
    exact wellFormedWord_of_encode (encodeOfDecodeIsAccess (.command w) i hi)
  · intro h
    obtain ⟨r, hr, hw⟩ := List.any_eq_true.mp h
    exact decodes_of_matchesWord hr hw
  · intro r₁ h₁ r₂ h₂ hw₁ hw₂
    obtain ⟨hmask, hinj⟩ := opcodeRows_op
    have hop₁ := OpcodeRow.field_eq_of_matchesWord hw₁ 0 4 (hmask r₁ h₁)
    have hop₂ := OpcodeRow.field_eq_of_matchesWord hw₂ 0 4 (hmask r₂ h₂)
    exact hinj r₁ h₁ r₂ h₂ (hop₁.symm.trans hop₂)

/-- Settles O6: the decoder answers an encoding, which is not ILLEGAL, or rejects an ILLEGAL word. -/
theorem onlyIllegalWordsFailToDecode : Obligations.OnlyIllegalWordsFailToDecode := by
  intro w
  have ho := decodeCommand_outcome w
  generalize decodeCommand w = d at ho ⊢
  cases ho with
  | accepted i h => simp [not_illegalWord_of_encode h]
  | rejected r h => simp [h]

/-- Settles O5: the decoder rejects the word, and a rejected word only sets REJ. -/
theorem illegalWordOnlySetsRej : Obligations.IllegalWordOnlySetsRej := by
  intro s w h
  obtain ⟨r, hr⟩ := (onlyIllegalWordsFailToDecode w).mpr h
  exact performAccess_command_of_error hr s

/-- Settles O15: the word decodes to the CFG of its fields. -/
theorem cfgWordWritesConfiguration : Obligations.CfgWordWritesConfiguration := by
  intro w s hop hz
  refine ⟨_, performAccess_command_of_ok (decodeCommand_cfg hop hz) s, rfl, rfl, ?_, rfl⟩
  rw [← immField_toNat]
  exact cfgTargetOperand_ofBit_toNat ..

/-- Settles O1: the decoder is run on each word. -/
theorem specTableWordsDecode : Obligations.SpecTableWordsDecode :=
  ⟨rfl, rfl, rfl, rfl, rfl, rfl, rfl, rfl, rfl, rfl, ⟨_, rfl⟩, ⟨_, rfl⟩⟩

end Sys2Proof.Proofs
end

section
/-! The bit buffer: how a REFILL ends, a TAKE_SYMBOL from a buffer that has or gets enough bits, and several of them in a row
(40_bit_buffer.md R101 to R108). -/

namespace Sys2Proof.Machine

open Sys2Proof.Safety

/-! ### REFILL, by the RNG's answer (R101) -/

theorem refill_of_no_answer {s : State} (hr : rngRead s.env = none) : refill s = .waiting := by
  rw [refill, hr]

theorem refill_of_short {s : State} {e : Env} (hr : rngRead s.env = some (.short, e)) :
    refill s = .failed (raiseError errSourceExhausted (withEnv e s)) := by
  rw [refill, hr]

theorem refill_of_full {s : State} {b0 b1 b2 b3 b4 b5 b6 b7 : Byte} {e : Env}
    (hr : rngRead s.env = some (.full b0 b1 b2 b3 b4 b5 b6 b7, e)) :
    refill s = .filled (loadBuffer (littleEndianWord b0 b1 b2 b3 b4 b5 b6 b7) (withEnv e s)) := by
  rw [refill, hr]

/-- What a REFILL says of the RNG's answer and of the state it leaves. -/
def RefillOutcome (s : State) : RefillResult → Prop
  | .waiting  => rngRead s.env = none
  | .failed u => ∃ e, rngRead s.env = some (.short, e) ∧ u = raiseError errSourceExhausted (withEnv e s)
  | .filled u => ∃ b0 b1 b2 b3 b4 b5 b6 b7 e, rngRead s.env = some (.full b0 b1 b2 b3 b4 b5 b6 b7, e) ∧
      u = loadBuffer (littleEndianWord b0 b1 b2 b3 b4 b5 b6 b7) (withEnv e s)

/-- Everything a REFILL can do. -/
theorem refill_outcome (s : State) : RefillOutcome s (refill s) := by
  rcases hr : rngRead s.env with _ | ⟨_ | _, e⟩
  · rw [refill_of_no_answer hr]; exact hr
  · rw [refill_of_full hr]; exact ⟨_, _, _, _, _, _, _, _, e, hr, rfl⟩
  · rw [refill_of_short hr]; exact ⟨e, hr, rfl⟩

/-- A REFILL that ends in BUF filled, made because VALID is too low, gives the state the draw is made from. -/
theorem refilled_of_refill {w : Nat} {s u : State} (hv : s.valid.toNat < w) (hf : refill s = .filled u) :
    Refilled w s u := by
  have h := refill_outcome s
  rw [hf] at h
  obtain ⟨b0, b1, b2, b3, b4, b5, b6, b7, e, hr, rfl⟩ := h
  exact .loaded b0 b1 b2 b3 b4 b5 b6 b7 e hv hr

/-- With enough valid bits there is no refill (R104). -/
theorem Refilled.eq_of_enough {w : Nat} {s u : State} (h : Refilled w s u) (hw : w ≤ s.valid.toNat) : u = s := by
  cases h with
  | enough => rfl
  | loaded _ _ _ _ _ _ _ _ _ hv => exact absurd hw (Nat.not_le_of_lt hv)

/-! ### A symbol wider than BUF (R105) -/

theorem takeSymbol_tooWide {w : Nat} (hw : 64 < w) (s : State) : takeSymbol w s = .tooWide := if_pos hw

theorem takeSymbol_ne_tooWide {w : Nat} (hw : w ≤ 64) (s : State) : takeSymbol w s ≠ .tooWide := by
  obtain ⟨u, -, h⟩ | ⟨-, e, -, h⟩ | ⟨-, -, h⟩ := takeSymbol_cases hw s <;> rw [h] <;> nofun

theorem acceptWord_ne_refused (x : WordSymbol) (t : State) (r : Refusal) : acceptWord x t ≠ .refused r := by
  unfold acceptWord
  split <;> nofun

theorem wordStep_ne_refused (s : State) (r : Refusal) : wordStep s ≠ .refused r := by
  have hw := takeSymbol_ne_tooWide (w := Config.wordWidth) (by decide) s
  unfold wordStep
  split
  · exact acceptWord_ne_refused _ _ r
  · nofun
  · nofun
  · exact absurd ‹_› hw

theorem digitStep_ne_refused (s : State) (r : Refusal) : digitStep s ≠ .refused r := by
  have hw := takeSymbol_ne_tooWide (w := Config.digitWidth) (by decide) s
  unfold digitStep
  split
  · nofun
  · nofun
  · nofun
  · exact absurd ‹_› hw

/-! ### Several draws in a row (R107, R108) -/

/-- The first `n` symbols of `w` bits of a buffer, from its low end. -/
def lowSymbols (w n : Nat) (v : BitVec 64) : List (BitVec w) :=
  (List.range n).map fun i => v.extractLsb' (w * i) w

theorem lowSymbols_succ (w n : Nat) (v : BitVec 64) :
    lowSymbols w (n + 1) v = v.setWidth w :: lowSymbols w n (v >>> w) := by
  have h0 : v.extractLsb' 0 w = v.setWidth w := BitVec.eq_of_toNat_eq (by simp)
  have h (i : Nat) : v.extractLsb' (w * (i + 1)) w = (v >>> w).extractLsb' (w * i) w := by
    rw [Nat.mul_succ, Nat.add_comm, BitVec.extractLsb', BitVec.extractLsb', BitVec.toNat_ushiftRight, Nat.shiftRight_add]
  simp [lowSymbols, List.range_succ_eq_map, h0, h]

/-- The symbols as numbers. -/
theorem lowSymbols_toNat (w n : Nat) (v : BitVec 64) :
    (lowSymbols w n v).map BitVec.toNat = (List.range n).map fun i => v.toNat / 2 ^ (w * i) % 2 ^ w := by
  simp [lowSymbols, BitVec.extractLsb'_toNat, Nat.shiftRight_eq_div_pow]

/-- As many draws as BUF has valid bits for: its symbols from the low end, and the bits above them left. -/
theorem takeMany_of_enough {w n : Nat} {s : State} (hw : w ≤ 64) (h : w * n ≤ s.valid.toNat) :
    ∃ t, takeMany w n s = some (lowSymbols w n s.buf, t) ∧
      t.buf = s.buf >>> (w * n) ∧ t.valid.toNat = s.valid.toNat - w * n := by
  induction n generalizing s with
  | zero => exact ⟨s, rfl, by simp, rfl⟩
  | succ n ih =>
    rw [Nat.mul_succ] at h ⊢
    have hs : w ≤ s.valid.toNat := by omega
    have hv := shiftOut_valid_toNat hs
    obtain ⟨t, ht, hbuf, hvalid⟩ := ih (s := shiftOut w s) (by omega)
    refine ⟨t, ?_, ?_, by omega⟩
    · simp [takeMany, takeSymbol_enough hw hs, drawLow, ht, lowSymbols_succ]
    · rw [hbuf, shiftOut_buf, ← BitVec.shiftRight_add, Nat.add_comm]

/-- The first of the draws makes the refill. -/
theorem Refilled.takeMany_succ_eq {w n : Nat} {s u : State} (hu : Refilled w s u) (hw : w ≤ 64) :
    takeMany w (n + 1) s = takeMany w (n + 1) u := by
  rw [takeMany, takeMany, hu.takeSymbol_eq hw, takeSymbol_enough hw (hu.valid_ge hw)]

/-- A field of a refill's eight bytes, as a number. -/
theorem extractLsb'_littleEndianWord_toNat {a n : Nat} {b0 b1 b2 b3 b4 b5 b6 b7 : Byte} :
    ((littleEndianWord b0 b1 b2 b3 b4 b5 b6 b7).extractLsb' a n).toNat =
      (b0.toNat + 2 ^ 8 * b1.toNat + 2 ^ 16 * b2.toNat + 2 ^ 24 * b3.toNat + 2 ^ 32 * b4.toNat + 2 ^ 40 * b5.toNat +
        2 ^ 48 * b6.toNat + 2 ^ 56 * b7.toNat) / 2 ^ a % 2 ^ n := by
  rw [BitVec.extractLsb'_toNat, littleEndianWord_toNat, Nat.shiftRight_eq_div_pow]

/-- A refill's value has the bytes of the stream as its digits to base 256 (20_memory.md R56). -/
theorem littleEndianWord_eq_ofDigits (b0 b1 b2 b3 b4 b5 b6 b7 : Byte) :
    (littleEndianWord b0 b1 b2 b3 b4 b5 b6 b7).toNat =
      Nat.ofDigits 256 ([b0, b1, b2, b3, b4, b5, b6, b7].map BitVec.toNat) := by
  rw [littleEndianWord_toNat]
  simp only [List.map_cons, List.map_nil, Nat.ofDigits_cons, Nat.ofDigits_nil]
  omega

/-- The 4-bit fields of a number made of bytes are the bytes' nibbles, the low one of each first. -/
theorem nibbles_ofDigits (bs : List Byte) :
    (List.range (2 * bs.length)).map (fun i => Nat.ofDigits 256 (bs.map BitVec.toNat) / 2 ^ (4 * i) % 2 ^ 4) =
      bs.flatMap fun b => [b.toNat % 16, b.toNat / 16] := by
  induction bs with
  | nil => rfl
  | cons b bs ih =>
    have hb := b.isLt
    rw [List.map_cons, Nat.ofDigits_cons, List.flatMap_cons, ← ih, List.length_cons, Nat.mul_succ]
    generalize Nat.ofDigits 256 (bs.map BitVec.toNat) = m
    have hlow : (b.toNat + 256 * m) % 16 = b.toNat % 16 := by omega
    have hhigh : (b.toNat + 256 * m) / 16 % 16 = b.toNat / 16 := by omega
    have hrest (i : Nat) : (b.toNat + 256 * m) / 2 ^ (4 * (i + 2)) = m / 2 ^ (4 * i) := by
      have hm : (b.toNat + 256 * m) / 2 ^ 8 = m := by omega
      rw [show 4 * (i + 2) = 8 + 4 * i by omega, Nat.pow_add, ← Nat.div_div_eq_div_mul, hm]
    rw [List.range_succ_eq_map, List.range_succ_eq_map]
    simp [hrest, hlow, hhigh]

/-- The draws from one refill, from the low end of the value it loads. -/
theorem takeMany_of_full {w n : Nat} {s : State} {b0 b1 b2 b3 b4 b5 b6 b7 : Byte} {e : Env}
    (hn : w * (n + 1) ≤ 64) (hv : s.valid.toNat < w)
    (hr : rngRead s.env = some (.full b0 b1 b2 b3 b4 b5 b6 b7, e)) :
    ∃ t, takeMany w (n + 1) s = some (lowSymbols w (n + 1) (littleEndianWord b0 b1 b2 b3 b4 b5 b6 b7), t) ∧
      t.buf = littleEndianWord b0 b1 b2 b3 b4 b5 b6 b7 >>> (w * (n + 1)) ∧ t.valid.toNat = 64 - w * (n + 1) := by
  have hw : w ≤ 64 := Nat.le_trans (Nat.le_mul_of_pos_right w n.succ_pos) hn
  rw [(Refilled.loaded b0 b1 b2 b3 b4 b5 b6 b7 e hv hr).takeMany_succ_eq hw]
  exact takeMany_of_enough hw hn

/-! ### Who reads the random source (R102) -/

/-- A CORE turn that needs no refill leaves the inputs and REFILL_COUNT. -/
theorem CoreOutcome.unread {s t : State} (h : CoreOutcome s t)
    (hn : ¬ (s.state = .collecting ∧ s.valid.toNat < symbolWidth s.rmode)) :
    t.env = s.env ∧ t.refillCount = s.refillCount := by
  have hsame {w : Nat} {u : State} (hs : s.state = .collecting) (hw : symbolWidth s.rmode = w) (hu : Refilled w s u) :
      u = s := hu.eq_of_enough (hw ▸ Nat.le_of_not_lt fun hv => hn ⟨hs, hv⟩)
  cases h with
  | pass => exact ⟨rfl, rfl⟩
  | exhausted e hs hv => exact absurd ⟨hs, hv⟩ hn
  | word u tok hs hm hu => rw [hsame hs (by rw [hm]; rfl) hu]; simp
  | digit u d hs hm hu => rw [hsame hs (by rw [hm]; rfl) hu]; simp
  | rejected u hs hm hu => rw [hsame hs (by rw [hm]; rfl) hu]; simp

/-- An instruction changes at most READ's data among the inputs, and REFILL_COUNT only by START. -/
theorem EffectOutcome.unread {i : Instr} {s t : State} (h : EffectOutcome s i t) :
    t.env = { s.env with readData := t.env.readData } ∧ (t.refillCount = s.refillCount ∨ i = .start) := by
  cases h with
  | nop | cfg | read | rejected | cleared | stored | dropped => exact ⟨rfl, .inl rfl⟩
  | started => rw [launchRun_frame]; exact ⟨rfl, .inr rfl⟩

end Sys2Proof.Machine

namespace Sys2Proof.Proofs

open Sys2Proof.Machine Sys2Proof.Safety

/-- Settles O26: by the RNG's answer; the loaded value is the bytes' little-endian number. -/
theorem refillLoadsOrFails : Obligations.RefillLoadsOrFails := by
  intro s
  refine ⟨refill_of_no_answer, fun e hr => refill_of_short hr, fun b0 b1 b2 b3 b4 b5 b6 b7 e hr => ?_⟩
  refine ⟨_, refill_of_full hr, ?_, rfl, ?_, rfl⟩
  · exact littleEndianWord_toNat b0 b1 b2 b3 b4 b5 b6 b7
  · simp [BitVec.toNat_add]

/-- Settles O27: the draw is made from the state that a refill, where one is needed, leaves. -/
theorem takeSymbolDrawsLowBits : Obligations.TakeSymbolDrawsLowBits := by
  intro w s _ hw
  refine ⟨fun u hu => ?_, fun u hv hf => ?_, fun hv hwait => ?_⟩
  · have hu : Refilled w s u := by
      obtain ⟨hv, rfl⟩ | ⟨hv, hf⟩ := hu
      · exact .enough hv
      · exact refilled_of_refill hv hf
    refine ⟨_, shiftOut w u, hu.takeSymbol_eq hw, by simp, ?_, shiftOut_valid_toNat (hu.valid_ge hw), rfl⟩
    rw [shiftOut_buf, BitVec.toNat_ushiftRight, Nat.shiftRight_eq_div_pow]
  · have h := refill_outcome s
    rw [hf] at h
    obtain ⟨e, hr, rfl⟩ := h
    exact ⟨takeSymbol_short hw hv hr, rfl⟩
  · have hr := refill_outcome s
    rw [hwait] at hr
    exact takeSymbol_waiting hw hv hr

/-- Settles O28: the two widths a STEP asks for, 18 and 4, are at most that of BUF. -/
theorem tooWideSymbolIsNeverTaken : Obligations.TooWideSymbolIsNeverTaken := by
  refine ⟨fun w s hw => takeSymbol_tooWide hw s, fun s r => ?_⟩
  by_cases hs : s.state = .collecting
  · cases hm : s.rmode with
    | word => rw [coreTurn_word hs hm]; exact wordStep_ne_refused s r
    | digit => rw [coreTurn_digit hs hm]; exact digitStep_ne_refused s r
  · rw [coreTurn_not_collecting hs]; nofun

/-- Settles O29: bits 0 to 17, 18 to 35 and 36 to 53 of the bytes' little-endian number, and the bits above them. -/
theorem wordSymbolsOfOneRefill : Obligations.WordSymbolsOfOneRefill := by
  intro s b0 b1 b2 b3 b4 b5 b6 b7 e hv hr
  obtain ⟨t, ht, hbuf, hvalid⟩ := takeMany_of_full (n := 2) (by decide) hv hr
  refine ⟨_, _, _, t, ht, (extractLsb'_littleEndianWord_toNat (a := 0)).trans ?_,
    (extractLsb'_littleEndianWord_toNat (a := 18)).trans ?_, (extractLsb'_littleEndianWord_toNat (a := 36)).trans ?_, ?_,
    hvalid⟩
  · omega
  · omega
  · omega
  · rw [hbuf, BitVec.toNat_ushiftRight, littleEndianWord_toNat, Nat.shiftRight_eq_div_pow]
    omega

/-- Settles O30: the symbols are the base-16 digits of the bytes' little-endian number. -/
theorem digitSymbolsOfOneRefill : Obligations.DigitSymbolsOfOneRefill := by
  intro s b0 b1 b2 b3 b4 b5 b6 b7 e hv hr
  obtain ⟨t, ht, -, hvalid⟩ := takeMany_of_full (n := 15) (by decide) hv hr
  refine ⟨_, t, ht, ?_, hvalid⟩
  rw [lowSymbols_toNat, littleEndianWord_eq_ofDigits]
  exact nibbles_ofDigits [b0, b1, b2, b3, b4, b5, b6, b7]

/-- Settles O40: an instruction does not reach the source, and a CORE turn reaches it only through a refill. -/
theorem onlyRefillReadsRandomSource : Obligations.OnlyRefillReadsRandomSource := by
  intro s t hst hreset hinput hcore
  have ho := step_actionOutcome hst
  generalize actionOf s = a at *
  cases ho with
  | reset => exact absurd rfl hreset
  | core l hc =>
    obtain ⟨henv, hcount⟩ := hc.unread fun hn => hcore ⟨rfl, hn⟩
    rw [henv]
    exact ⟨rfl, rfl, rfl, rfl, .inl hcount⟩
  | instruction i l ht =>
    obtain ⟨henv, hcount⟩ := ht.unread
    rw [henv]
    exact ⟨rfl, rfl, rfl, rfl, hcount.imp_right (congrArg _)⟩
  | illegal l => exact ⟨rfl, rfl, rfl, rfl, .inl rfl⟩
  | input e => exact absurd rfl hinput

end Sys2Proof.Proofs
end

section
/-! The domain mapper and the rejection filter: MAP_WORD over a full LUT, MAP_DIGIT and its comparator, and the STEP that
rejects its symbol (41_domain_mapper.md R120 to R127; 43_accumulator.md R169). -/

namespace Sys2Proof.Machine

/-! ### MAP_WORD over a full LUT (R120, R121) -/

/-- Every symbol is below WORD_N, so over a full LUT it reads the entry of its number. -/
theorem mapWord_of_full {s : State} (hfull : s.domainCount.toNat = 2 ^ 18) (x : WordSymbol) :
    mapWord s x = s.domain.read x.toNat :=
  if_pos (x.isLt.trans_eq hfull.symm)

/-! ### MAP_DIGIT (R124, R125) -/

theorem mapDigit_of_le {x : DigitSymbol} (h : x.toNat ≤ 9) : mapDigit x = some x := if_pos h

theorem mapDigit_of_gt {x : DigitSymbol} (h : 9 < x.toNat) : mapDigit x = none := if_neg (Nat.not_le_of_lt h)

theorem mapDigit_isSome (x : DigitSymbol) : (mapDigit x).isSome = decide (x.toNat ≤ 9) := by
  obtain h | h := Nat.lt_or_ge 9 x.toNat
  · rw [mapDigit_of_gt h, decide_eq_false (Nat.not_le_of_lt h)]; rfl
  · rw [mapDigit_of_le h, decide_eq_true h]; rfl

/-- The comparator's three bits tell the digits from the other symbols (R125). -/
theorem decide_le_nine_eq_comparator :
    ∀ x : DigitSymbol, decide (x.toNat ≤ 9) = !(x.getLsbD 3 && (x.getLsbD 2 || x.getLsbD 1)) := by
  decide

/-! ### The STEP that rejects its symbol (R127, R169) -/

theorem acceptOrRejectDigit_of_gt {x : DigitSymbol} (h : 9 < x.toNat) (t : State) :
    acceptOrRejectDigit x t = countDraw t := by
  rw [acceptOrRejectDigit, mapDigit_of_gt h]

/-- A symbol is drawn from the low end of a buffer that has, or gets by a refill, enough bits. -/
theorem exists_refilled_of_takeSymbol {w : Nat} (hw : w ≤ 64) {s u : State} {x : BitVec w}
    (h : takeSymbol w s = .symbol x u) : ∃ v, Refilled w s v ∧ x = v.buf.setWidth w ∧ u = shiftOut w v := by
  obtain ⟨v, hv, e⟩ | ⟨-, e', -, e⟩ | ⟨-, -, e⟩ := takeSymbol_cases hw s <;> rw [e] at h <;> cases h
  exact ⟨v, hv, rfl, rfl⟩

/-- A TAKE_SYMBOL that gives a symbol touches BUF, VALID, REFILL_COUNT and the inputs alone. -/
theorem takeSymbol_frame {w : Nat} (hw : w ≤ 64) {s u : State} {x : BitVec w} (h : takeSymbol w s = .symbol x u) :
    u = { s with buf := u.buf, valid := u.valid, refillCount := u.refillCount, env := u.env } := by
  obtain ⟨v, hv, -, rfl⟩ := exists_refilled_of_takeSymbol hw h
  cases hv with
  | enough => rfl
  | loaded => rfl

/-- A DIGIT STEP that draws 10 to 15 only counts the draw, over what TAKE_SYMBOL leaves. -/
theorem coreTurn_of_rejected {s u : State} {x : DigitSymbol} (hs : s.state = .collecting) (hm : s.rmode = .digit)
    (h : takeSymbol 4 s = .symbol x u) (hx : 9 < x.toNat) : coreTurn s = .next (countDraw u) := by
  rw [coreTurn_digit hs hm, digitStep, h]
  exact congrArg _ (acceptOrRejectDigit_of_gt hx u)

end Sys2Proof.Machine

namespace Sys2Proof.Proofs

open Sys2Proof.Machine

/-- Settles O32: over a full LUT MAP_WORD reads the entries by number, and the symbols are the numbers below 2^18; that
the entries hold values is not needed. -/
theorem mapWordInjectiveIffDistinct : Obligations.MapWordInjectiveIffDistinct := by
  intro s hfull _
  simp only [mapWord_of_full hfull]
  constructor
  · intro hinj i j hi hj hij hread
    have hxy : BitVec.ofNatLT i hi = BitVec.ofNatLT j hj := hinj _ _ hread
    exact hij (congrArg BitVec.toNat hxy)
  · intro hdistinct x y hread
    by_contra hxy
    exact hdistinct x.toNat y.toNat x.isLt y.isLt (fun e => hxy (BitVec.eq_of_toNat_eq e)) hread

/-- Settles O43: the turn leaves what TAKE_SYMBOL leaves, with the draw counted. -/
theorem digitStepRejectsSilently : Obligations.DigitStepRejectsSilently := by
  intro s u x hs hm h hx
  have hframe := takeSymbol_frame (by decide) h
  have hdraw : u.drawCount = s.drawCount := by rw [hframe]
  refine ⟨countDraw u, coreTurn_of_rejected hs hm h hx, ?_, ?_⟩
  · rw [← hdraw]; exact BitVec.toNat_add ..
  · exact congrArg (fun r : State => { r with drawCount := (countDraw u).drawCount }) hframe

/-- Settles O31: MAP_DIGIT accepts exactly the symbols up to 9, and so does the comparator, on all sixteen. -/
theorem mapDigitIsComparator : Obligations.MapDigitIsComparator :=
  fun x => ⟨rfl, (mapDigit_isSome x).trans (decide_le_nine_eq_comparator x)⟩

end Sys2Proof.Proofs
end

section
/-! Loading the domain: a push, a row of pushes, DFULL, and START over a LUT that is not full (42_domain_load.md R140 to
R144). -/

namespace Sys2Proof.Machine

open Sys2Proof.Safety

/-! ### One push (R143) -/

theorem exec_lutPush_accepted {s : State} (v : Token) (hs : s.state ≠ .collecting) :
    exec (.lutPush v) s = .next (pushToken v s) := by
  rw [exec_eq, effect_lutPush_accepted v hs]

theorem pushToken_of_room {s : State} (v : Token) (h : s.domainCount.toNat < 2 ^ 18) :
    pushToken v s = lutAppend v s := if_pos h

theorem pushToken_of_full {s : State} (v : Token) (h : ¬ s.domainCount.toNat < 2 ^ 18) : pushToken v s = s := if_neg h

/-- While there is room DOMAIN_COUNT does not wrap. -/
theorem lutAppend_domainCount_toNat {s : State} (v : Token) (h : s.domainCount.toNat < 2 ^ 18) :
    (lutAppend v s).domainCount.toNat = s.domainCount.toNat + 1 :=
  BitVec.toNat_add_of_lt (by simp; omega)

/-- `t` is `s` with this token in its next free entry: what R143 says of a push that finds room. -/
def TokenStored (v : Token) (s t : State) : Prop :=
  t.domain.read s.domainCount.toNat = some v ∧
  (∀ j, j ≠ s.domainCount.toNat → t.domain.read j = s.domain.read j) ∧
  t.domainCount.toNat = s.domainCount.toNat + 1 ∧
  t = { s with domain := t.domain, domainCount := t.domainCount }

theorem tokenStored_pushToken {s : State} (v : Token) (h : s.domainCount.toNat < 2 ^ 18) :
    TokenStored v s (pushToken v s) := by
  rw [pushToken_of_room v h]
  exact ⟨Memory.read_write_same .., fun _ hj => Memory.read_write_other _ v hj, lutAppend_domainCount_toNat v h, rfl⟩

/-! ### A row of pushes (R144) -/

/-- `t` is `s` with these tokens in its free entries, in order, as far as there is room. -/
structure TokensStored (ts : List Token) (s t : State) : Prop where
  count : t.domainCount.toNat = min (s.domainCount.toNat + ts.length) (2 ^ 18)
  entry : ∀ k < ts.length, s.domainCount.toNat + k < 2 ^ 18 → t.domain.read (s.domainCount.toNat + k) = ts[k]?
  below : ∀ j < s.domainCount.toNat, t.domain.read j = s.domain.read j
  frame : t = { s with domain := t.domain, domainCount := t.domainCount }

theorem tokensStored_nil {s : State} (h : s.domainCount.toNat ≤ 2 ^ 18) : TokensStored [] s s where
  count := (Nat.min_eq_left h).symm
  entry := fun _ hk => absurd hk (Nat.not_lt_zero _)
  below := fun _ _ => rfl
  frame := rfl

/-- The first token goes to the next free entry, and the rest behind it. -/
theorem TokensStored.cons {v : Token} {ts : List Token} {s t : State} (hroom : s.domainCount.toNat < 2 ^ 18)
    (h : TokensStored ts (lutAppend v s) t) : TokensStored (v :: ts) s t := by
  have hcount := lutAppend_domainCount_toNat v hroom
  refine ⟨?_, fun k hk hlt => ?_, fun j hj => ?_, h.frame⟩
  · rw [h.count, hcount, List.length_cons, Nat.add_assoc, Nat.add_comm 1]
  · cases k with
    | zero =>
      rw [Nat.add_zero, h.below _ (by omega)]
      exact Memory.read_write_same ..
    | succ k =>
      have hentry := h.entry k (Nat.lt_of_succ_lt_succ hk) (by omega)
      rwa [hcount, Nat.add_assoc, Nat.add_comm 1] at hentry
  · rw [h.below j (by omega)]
    exact Memory.read_write_other _ v (Nat.ne_of_lt hj)

/-- A full LUT drops every token. -/
theorem TokensStored.cons_of_full {v : Token} {ts : List Token} {s t : State} (hfull : s.domainCount.toNat = 2 ^ 18)
    (h : TokensStored ts s t) : TokensStored (v :: ts) s t where
  count := by rw [h.count, List.length_cons]; omega
  entry := fun k _ hlt => by omega
  below := h.below
  frame := h.frame

theorem pushAll_cons {s : State} (v : Token) (ts : List Token) (hs : s.state ≠ .collecting) :
    pushAll (v :: ts) s = pushAll ts (pushToken v s) := by
  rw [pushAll, exec_lutPush_accepted v hs]

/-- Outside a run any tokens can be pushed. -/
theorem exists_pushAll (ts : List Token) {s : State} (hs : s.state ≠ .collecting)
    (hcount : s.domainCount.toNat ≤ 2 ^ 18) : ∃ t, pushAll ts s = .next t ∧ TokensStored ts s t := by
  induction ts generalizing s with
  | nil => exact ⟨s, rfl, tokensStored_nil hcount⟩
  | cons v ts ih =>
    rw [pushAll_cons v ts hs]
    obtain hroom | hfull := Nat.lt_or_eq_of_le hcount
    · obtain ⟨t, ht, hstored⟩ := ih (s := lutAppend v s) hs (by rw [lutAppend_domainCount_toNat v hroom]; exact hroom)
      exact ⟨t, pushToken_of_room v hroom ▸ ht, hstored.cons hroom⟩
    · obtain ⟨t, ht, hstored⟩ := ih hs hcount
      exact ⟨t, (pushToken_of_full v hfull.not_lt).symm ▸ ht, hstored.cons_of_full hfull⟩

/-! ### DFULL and START's check of the domain (10_state.md R38; 60_exceptions.md R225) -/

/-- Bit 3 of STATUS is DFULL. -/
theorem readRegister_status_dfull (s : State) : (readRegister 0x00#8 s).getLsbD 3 = domainFull s := by
  show (statusRegister s).getLsbD 3 = domainFull s
  rw [statusRegister, BitVec.getLsbD_setWidth, BitVec.getLsbD_append, BitVec.getLsbD_append]
  simp

theorem readRegister_status_dfull_iff (s : State) :
    (readRegister 0x00#8 s).getLsbD 3 = true ↔ s.domainCount.toNat = 2 ^ 18 := by
  rw [readRegister_status_dfull]
  exact beq_iff_eq

/-- START of a WORD run over a LUT that is not full ends in the error entry, before anything else is checked. -/
theorem exec_start_of_insufficientDomain {s : State} (hs : s.state ≠ .collecting) (hm : s.cfgMode = .word)
    (hd : s.domainCount.toNat < 2 ^ 18) :
    exec .start s = .next (raiseError errInsufficientDomain (latchRun s)) := by
  rw [exec_eq, effect_start_accepted hs]
  exact congrArg _ (if_pos ⟨hm, hd⟩)

/-- Too few tokens to reload a cleared LUT leave START no WORD run. -/
theorem exists_pushAll_start_insufficientDomain {ts : List Token} {s : State} (hs : s.state ≠ .collecting)
    (hcount : s.domainCount = 0#19) (hm : s.cfgMode = .word) (hlen : ts.length < 2 ^ 18) :
    ∃ u v, pushAll ts s = .next u ∧ exec .start u = .next v ∧ v.state = .error ∧ v.errCode = 4#3 := by
  obtain ⟨u, hu, hstored⟩ := exists_pushAll ts hs (by simp [hcount])
  have hstate : u.state = s.state := by rw [hstored.frame]
  have hmode : u.cfgMode = s.cfgMode := by rw [hstored.frame]
  have hshort : u.domainCount.toNat < 2 ^ 18 := by
    rw [hstored.count, hcount, BitVec.toNat_zero, Nat.zero_add]
    exact Nat.lt_of_le_of_lt (Nat.min_le_left ..) hlen
  exact ⟨u, _, hu, exec_start_of_insufficientDomain (hstate ▸ hs) (hmode.trans hm) hshort, rfl, rfl⟩

end Sys2Proof.Machine

namespace Sys2Proof.Proofs

open Sys2Proof.Machine

/-- Settles O19: LUT_CLEAR is accepted. -/
theorem lutClearEmptiesDomain : Obligations.LutClearEmptiesDomain := by
  intro s hs
  rw [exec_eq, effect_lutClear_accepted hs]
  rfl

/-- Settles O20: the word decodes to LUT_CLEAR; fewer than 2^18 pushes after it leave DOMAIN_COUNT below 2^18, which is
what START checks first. -/
theorem lutClearWordClearsOrRejects : Obligations.LutClearWordClearsOrRejects := by
  intro s
  refine ⟨_, performAccess_command_of_ok (decodeCommand_lutClear rfl rfl) s, ?_⟩
  split
  next hs => exact effect_lutClear_rejected hs
  next hs =>
    rw [effect_lutClear_accepted hs]
    exact ⟨rfl, readRegister_status_dfull _, fun hm _ hlen => exists_pushAll_start_insufficientDomain hs rfl hm hlen⟩

/-- Settles O21: the push finds room. -/
theorem lutPushStoresNextEntry : Obligations.LutPushStoresNextEntry :=
  fun v _ hs hroom => ⟨_, exec_lutPush_accepted v hs, tokenStored_pushToken v hroom⟩

/-- Settles O22: the push finds no room. -/
theorem lutPushToFullDomainIsDropped : Obligations.LutPushToFullDomainIsDropped := by
  intro v s hs hfull
  rw [exec_lutPush_accepted v hs, pushToken_of_full v hfull]

/-- Settles O23: the word decodes to LUT_PUSH of its bits [63:32]. -/
theorem lutPushWordLoadsDropsOrRejects : Obligations.LutPushWordLoadsDropsOrRejects := by
  intro w s hop hz
  refine ⟨_, performAccess_command_of_ok (decodeCommand_lutPush hop hz) s, ?_, readRegister_status_dfull_iff _⟩
  split
  next hs => exact effect_lutPush_rejected _ hs
  next hs =>
    rw [effect_lutPush_accepted _ hs]
    split
    next hroom => exact tokenStored_pushToken _ hroom
    next hfull => exact pushToken_of_full _ hfull

/-- Settles O24: from DOMAIN_COUNT 0 the entry a token goes to is its place in the row. -/
theorem lutHoldsFirstPushedTokens : Obligations.LutHoldsFirstPushedTokens := by
  intro ts s hs hcount
  obtain ⟨t, ht, hstored⟩ := exists_pushAll ts hs (by simp [hcount])
  have hzero : s.domainCount.toNat = 0 := by rw [hcount]; rfl
  refine ⟨t, ht, ?_, fun i hi => ?_, hstored.frame⟩
  · rw [hstored.count, hzero, Nat.zero_add]
  · obtain ⟨hlen, hroom⟩ := Nat.lt_min.1 hi
    simpa [hzero] using hstored.entry i hlen (by omega)

end Sys2Proof.Proofs
end

section
/-! The accumulator loop: what an accepted START leaves, the STEP that accepts its symbol, the turns that leave everything as
it is, and the counts of a run that is DONE (43_accumulator.md R160 to R172). -/

namespace Sys2Proof.Machine

open Sys2Proof.Safety

/-! ### START (R160, R163, R164) -/

theorem launchRun_of_insufficientDomain {s : State} (h : s.cfgMode = .word ∧ s.domainCount.toNat < 2 ^ 18) :
    launchRun s = raiseError errInsufficientDomain s := if_pos h

theorem launchRun_of_closedSource {s : State} (hd : ¬ (s.cfgMode = .word ∧ s.domainCount.toNat < 2 ^ 18))
    (hr : s.env.rngAvail = false) : launchRun s = raiseError errSourceUnavailable s :=
  (if_neg hd).trans (if_pos hr)

theorem launchRun_of_checked {s : State} (hd : ¬ (s.cfgMode = .word ∧ s.domainCount.toNat < 2 ^ 18))
    (hr : ¬ s.env.rngAvail = false) : launchRun s = terminal (enterCollecting s) :=
  (if_neg hd).trans (if_neg hr)

/-- A run that has drawn nothing has met the target 0 and no other, in either mode. -/
theorem targetMet_enterCollecting_latchRun (s : State) :
    targetMet (enterCollecting (latchRun s)) = true ↔ s.cfgTarget = 0#32 := by
  rw [← BitVec.toNat_inj, BitVec.toNat_zero, ← Nat.le_zero]
  cases hm : s.cfgMode with
  | word => exact targetMet_word hm
  | digit => exact targetMet_digit hm

/-- A START whose checks pass ends in DONE for the target 0, else in COLLECTING. -/
theorem exec_start_of_checked {s : State} (hs : s.state ≠ .collecting)
    (hd : s.cfgMode = .word → s.domainCount.toNat = 2 ^ 18) (hr : s.env.rngAvail = true) :
    exec .start s = .next (terminal (enterCollecting (latchRun s))) := by
  have hfull : ¬ ((latchRun s).cfgMode = .word ∧ (latchRun s).domainCount.toNat < 2 ^ 18) :=
    fun ⟨hm, hlt⟩ => Nat.ne_of_lt hlt (hd hm)
  rw [exec_eq, effect_start_accepted hs, launchRun_of_checked hfull (by simp [hr])]

/-- An accepted START latches and clears, and its checks then write STATE and ERR_CODE alone. -/
theorem launchRun_latchRun_frame (s : State) :
    launchRun (latchRun s) = { latchRun s with
      state := (launchRun (latchRun s)).state, errCode := (launchRun (latchRun s)).errCode } := by
  obtain ⟨hbuf, hvalid⟩ := launchRun_latchRun_buffer s
  have h := launchRun_frame (latchRun s)
  rw [hbuf, hvalid] at h
  exact h

/-- STATE and ERR_CODE after an accepted START: the domain is checked first, then the source, then the target. -/
theorem launchRun_latchRun_status (s : State) :
    if s.cfgMode = .word ∧ s.domainCount.toNat < 2 ^ 18 then
      (launchRun (latchRun s)).state = .error ∧ (launchRun (latchRun s)).errCode = 4#3
    else if s.env.rngAvail = false then
      (launchRun (latchRun s)).state = .error ∧ (launchRun (latchRun s)).errCode = 1#3
    else if s.cfgTarget = 0#32 then
      (launchRun (latchRun s)).state = .done ∧ (launchRun (latchRun s)).errCode = 0#3
    else (launchRun (latchRun s)).state = .collecting ∧ (launchRun (latchRun s)).errCode = 0#3 := by
  split
  next hd => rw [launchRun_of_insufficientDomain (s := latchRun s) hd]; exact ⟨rfl, rfl⟩
  next hd =>
    split
    next hr => rw [launchRun_of_closedSource (s := latchRun s) hd hr]; exact ⟨rfl, rfl⟩
    next hr =>
      rw [launchRun_of_checked (s := latchRun s) hd hr, terminal_errCode, terminal_state]
      simp only [targetMet_enterCollecting_latchRun]
      split <;> exact ⟨rfl, rfl⟩

/-! ### The STEP that accepts its symbol (R163, R166) -/

/-- `t` is `u`, what a draw of `w` bits left of `s`, with the symbol accepted as `rec`: one record, its width in ACC_BITS,
one count, one draw, and TERMINAL's answer in STATE. -/
structure SymbolAccepted (rec : Token) (w : Nat) (s u t : State) : Prop where
  out       : t.out = s.out ++ [rec]
  accBits   : t.accBits.toNat = (s.accBits.toNat + w) % 2 ^ 34
  accCount  : t.accCount.toNat = (s.accCount.toNat + 1) % 2 ^ 32
  drawCount : t.drawCount.toNat = (s.drawCount.toNat + 1) % 2 ^ 64
  state     : t.state = if targetMet t then .done else s.state
  latched   : t.rmode = s.rmode ∧ t.rtarget = s.rtarget
  frame     : t = { u with
    out := t.out, accBits := t.accBits, accCount := t.accCount, drawCount := t.drawCount, state := t.state }

/-- TERMINAL writes STATE alone. -/
theorem terminal_frame (s : State) : terminal s = { s with state := (terminal s).state } := by
  unfold terminal; split <;> rfl

/-- TERMINAL's condition does not speak of STATE. -/
theorem targetMet_terminal (s : State) : targetMet (terminal s) = targetMet s := by
  rw [terminal_frame]; rfl

theorem symbolAccepted_of_takeSymbol {w : Nat} (hw : w ≤ 64) {s u : State} {x : BitVec w}
    (h : takeSymbol w s = .symbol x u) (rec : Token) :
    SymbolAccepted rec w s u (terminal (acceptSymbol rec w (countDraw u))) := by
  have hu := takeSymbol_frame hw h
  have hout : u.out = s.out := by rw [hu]
  have hbits : u.accBits = s.accBits := by rw [hu]
  have hcount : u.accCount = s.accCount := by rw [hu]
  have hdraw : u.drawCount = s.drawCount := by rw [hu]
  have hstate : u.state = s.state := by rw [hu]
  exact {
    out := by simp [hout]
    accBits := by simp [hbits]
    accCount := by simp [hcount]
    drawCount := by simp [hdraw]
    state := by rw [targetMet_terminal, terminal_state]; simp [hstate]
    latched := by rw [hu]; simp
    frame := by rw [terminal_frame]; rfl }

/-- A WORD STEP that draws the symbol of an entry with a value accepts that value. -/
theorem coreTurn_of_token {s u : State} {x : WordSymbol} {tok : Token} (hs : s.state = .collecting) (hm : s.rmode = .word)
    (h : takeSymbol 18 s = .symbol x u) (hmap : mapWord s x = some tok) :
    coreTurn s = .next (terminal (acceptSymbol tok 18 (countDraw u))) := by
  have hu := takeSymbol_frame (by decide) h
  have hmapu : mapWord u x = some tok := (mapWord_congr (by rw [hu]) (by rw [hu]) x).trans hmap
  rw [coreTurn_word hs hm, wordStep, h]
  simp only [acceptWord, hmapu]

/-- A DIGIT STEP that draws 0 to 9 accepts it. -/
theorem coreTurn_of_digit {s u : State} {x : DigitSymbol} (hs : s.state = .collecting) (hm : s.rmode = .digit)
    (h : takeSymbol 4 s = .symbol x u) (hx : x.toNat ≤ 9) :
    coreTurn s = .next (terminal (acceptSymbol (digitRecord x) 4 (countDraw u))) := by
  rw [coreTurn_digit hs hm, digitStep, h]
  simp only [acceptOrRejectDigit, mapDigit_of_le hx]

/-! ### Several steps -/

theorem steps_succ {s t : State} (h : step s = .next t) (k : Nat) : steps (k + 1) s = steps k t := by
  rw [steps, h]

/-- A step that changes nothing is repeated for ever. -/
theorem steps_of_step_self {s : State} (h : step s = .next s) (k : Nat) : steps k s = .next s := by
  induction k with
  | zero => rfl
  | succ k ih => rw [steps_succ h, ih]

end Sys2Proof.Machine

namespace Sys2Proof.Safety

open Sys2Proof.Machine

/-! ### The counts of a run that is DONE (R167, R168, R170, R172) -/

section

variable {s : State}

/-- A run that is DONE has just met its target. -/
theorem Invariant.justMet (h : Invariant s) (hs : s.state = .done) : JustMet s := by
  obtain ⟨-, -, -, hj⟩ := h.account
  exact hj hs

theorem justMet_word (hm : s.rmode = .word) :
    JustMet s ↔ s.rtarget.toNat ≤ s.accBits.toNat ∧ s.accBits.toNat < s.rtarget.toNat + 18 := by
  rw [JustMet, hm]

theorem justMet_digit (hm : s.rmode = .digit) : JustMet s ↔ s.accCount.toNat = s.rtarget.toNat := by
  rw [JustMet, hm]

/-- ACC_BITS counts 18 bits for each token of a WORD run. -/
theorem Invariant.accBits_word (h : Invariant s) (hm : s.rmode = .word) : s.accBits.toNat = 18 * s.accCount.toNat := by
  obtain ⟨-, hbits⟩ := h.tally
  rwa [hm] at hbits

/-- ACC_BITS counts 4 bits for each digit of a DIGIT run. -/
theorem Invariant.accBits_digit (h : Invariant s) (hm : s.rmode = .digit) :
    s.accBits.toNat = 4 * s.accCount.toNat := by
  obtain ⟨-, hbits⟩ := h.tally
  rwa [hm] at hbits

/-- The bits of a WORD run that is DONE lie between its target and one symbol past it, so its tokens are ceil(RTARGET / 18)
(R167). -/
theorem Invariant.accCount_of_done (h : Invariant s) (hs : s.state = .done) (hm : s.rmode = .word) :
    s.accCount.toNat = (s.rtarget.toNat + 17) / 18 := by
  obtain ⟨hmet, hover⟩ := (justMet_word hm).1 (h.justMet hs)
  have hbits := h.accBits_word hm
  omega

/-- A DIGIT run that is DONE has met its target exactly (R172). -/
theorem Invariant.accCount_eq_rtarget (h : Invariant s) (hs : s.state = .done) (hm : s.rmode = .digit) :
    s.accCount = s.rtarget :=
  BitVec.eq_of_toNat_eq ((justMet_digit hm).1 (h.justMet hs))

end

end Sys2Proof.Safety

namespace Sys2Proof.Proofs

open Sys2Proof.Machine Sys2Proof.Safety

/-- Settles O33: the checks pass, and TERMINAL finds a target that is not 0. -/
theorem startEntersCollecting : Obligations.StartEntersCollecting := by
  intro s hs hd hr ht
  rw [exec_start_of_checked hs hd hr, terminal, if_neg (mt (targetMet_enterCollecting_latchRun s).1 ht)]
  rfl

/-- Settles O34: the word decodes to START; its frame gives the registers, its status STATE and ERR_CODE. -/
theorem startWordLatchesClearsAndChecks : Obligations.StartWordLatchesClearsAndChecks := by
  intro s
  refine ⟨_, performAccess_command_of_ok (decodeCommand_start rfl rfl) s, ?_⟩
  split
  next hs => exact effect_start_rejected hs
  next hs =>
    rw [effect_start_accepted hs, launchRun_latchRun_frame]
    exact ⟨rfl, rfl, rfl, rfl, rfl, rfl, rfl, rfl, rfl, rfl, rfl, rfl, rfl, rfl, rfl, rfl, launchRun_latchRun_status s⟩

/-- Settles O35: the checks pass, and TERMINAL finds the target 0 met. -/
theorem targetZeroIsDoneAtStart : Obligations.TargetZeroIsDoneAtStart := by
  intro s hs hd hr ht
  rw [exec_start_of_checked hs hd hr, terminal, if_pos ((targetMet_enterCollecting_latchRun s).2 ht)]
  exact ⟨_, rfl, rfl, rfl, rfl, rfl, rfl⟩

/-- Settles O41: the symbol's entry holds a value, which the STEP accepts. -/
theorem wordStepAcceptsToken : Obligations.WordStepAcceptsToken := by
  intro s u x tok hs hm h hx hread
  have ha := symbolAccepted_of_takeSymbol (by decide) h tok
  obtain ⟨hmode, htarget⟩ := ha.latched
  refine ⟨_, coreTurn_of_token hs hm h ((if_pos hx).trans hread), ha.out, ha.accBits, ha.accCount, ha.drawCount, ?_,
    ha.frame⟩
  rw [ha.state, hs, ← htarget]
  simp only [targetMet_word (hmode.trans hm)]

/-- Settles O42: MAP_DIGIT gives the symbol back, and the STEP accepts it. -/
theorem digitStepAcceptsDigit : Obligations.DigitStepAcceptsDigit := by
  intro s u x hs hm h hx
  have ha := symbolAccepted_of_takeSymbol (by decide) h (digitRecord x)
  obtain ⟨hmode, htarget⟩ := ha.latched
  have hrec : (digitRecord x).toNat = x.toNat := BitVec.toNat_setWidth_of_le (by decide)
  refine ⟨_, coreTurn_of_digit hs hm h hx, ?_, ha.accBits, ha.accCount, ha.drawCount, ?_, ha.frame⟩
  · rw [ha.out, List.map_append, List.map_singleton, hrec]
  · rw [ha.state, hs, ← htarget]
    simp only [targetMet_digit (hmode.trans hm)]

/-- Settles O44: the CORE's turn waits, and so does every one after it. -/
theorem unansweredRefillIsStuck : Obligations.UnansweredRefillIsStuck :=
  fun _ k hs hv hr hreset ha =>
    steps_of_step_self ((step_of_no_agenda hreset ha).trans (coreTurn_waiting hs hv hr)) k

/-- Settles O45: a CORE that does not collect takes no STEP, now or later. -/
theorem finishedRunStaysAsItIs : Obligations.FinishedRunStaysAsItIs :=
  fun _ k hs hreset ha =>
    steps_of_step_self ((step_of_no_agenda hreset ha).trans (coreTurn_not_collecting hs)) k

/-- Settles O54: the invariant says how far past its target a run that is DONE can be. -/
theorem doneRunMeetsTarget : Obligations.DoneRunMeetsTarget := by
  intro s t h hst hdone
  have ht := everyStepKeepsInvariant s t h hst
  refine ⟨fun hm => ?_, ht.accCount_eq_rtarget hdone⟩
  obtain ⟨hmet, hover⟩ := (justMet_word hm).1 (ht.justMet hdone)
  refine ⟨hmet, by omega, fun hzero => ?_⟩
  have hbits := ht.accBits_word hm
  have htarget : t.rtarget.toNat = 0 := by rw [hzero]; rfl
  omega

/-- Settles O55: the count of tokens fixes the other counts. -/
theorem wordRunCountsAtDone : Obligations.WordRunCountsAtDone := by
  intro s t h hst hdone hm
  have ht := everyStepKeepsInvariant s t h hst
  have hcount := ht.accCount_of_done hdone hm
  have hbits := ht.accBits_word hm
  obtain ⟨hlen, -⟩ := ht.tally
  obtain ⟨hdraw, -⟩ := ht.wordDraws hm (.inr hdone)
  refine ⟨t.accCount.toNat, hcount, hlen, hbits, rfl, hdraw, ?_, ?_⟩ <;> omega

/-- Settles O56: a run with a target has drawn, and the invariant then counts its refills and the bits left over. -/
theorem wordRunRefillsAtDone : Obligations.WordRunRefillsAtDone := by
  intro s t h hst hdone hm htarget
  have ht := everyStepKeepsInvariant s t h hst
  have hcount := ht.accCount_of_done hdone hm
  have hpos : t.rtarget.toNat ≠ 0 := fun hzero => htarget (BitVec.eq_of_toNat_eq hzero)
  obtain ⟨hdraw, hnone | ⟨-, hle, hge, hvalid⟩⟩ := ht.wordDraws hm (.inr hdone)
  · omega
  · refine ⟨by omega, by rw [hdraw]; exact hvalid, fun hdefault => ?_⟩
    have : t.rtarget.toNat = 64 := by rw [hdefault]; rfl
    omega

/-- Settles O57: the count of digits is the target, and every record is a digit. -/
theorem digitRunCountsAtDone : Obligations.DigitRunCountsAtDone := by
  intro s t h hst hdone hm
  have ht := everyStepKeepsInvariant s t h hst
  have hcount := ht.accCount_eq_rtarget hdone hm
  obtain ⟨hlen, -⟩ := ht.tally
  exact ⟨hcount ▸ hlen, ht.digits hm, hcount, hcount ▸ ht.accBits_digit hm⟩

end Sys2Proof.Proofs
end

section
/-! A source that gives only symbols above 9: an undisturbed DIGIT run draws for ever (43_accumulator.md R170;
70_reset_and_hazards.md R264). -/

namespace Sys2Proof.Machine

open Sys2Proof.Safety

/-- The answer whose sixteen nibbles are all 12. -/
abbrev allTwelve : RngAnswer := .full 0xCC#8 0xCC#8 0xCC#8 0xCC#8 0xCC#8 0xCC#8 0xCC#8 0xCC#8

/-- The bits of BUF below VALID are those of nibbles that are all 12, and no nibble is cut. -/
structure HoldsTwelves (s : State) : Prop where
  nibbles : s.valid.toNat % 4 = 0
  bits    : ∀ i < s.valid.toNat, s.buf.getLsbD i = decide (2 ≤ i % 4)

/-- A DIGIT run that no other agent disturbs, over a source whose nibbles are all 12. -/
structure Livelock (s : State) : Prop where
  collecting : s.state = .collecting
  digit      : s.rmode = .digit
  noReset    : s.env.resetIn = false
  noTurn     : s.env.agenda = []
  noQueue    : s.env.rngQueue = []
  source     : s.env.rngRest = .always allTwelve
  buffer     : HoldsTwelves s

/-! ### The buffer -/

theorem holdsTwelves_loadBuffer (s : State) :
    HoldsTwelves (loadBuffer (littleEndianWord 0xCC#8 0xCC#8 0xCC#8 0xCC#8 0xCC#8 0xCC#8 0xCC#8 0xCC#8) s) where
  nibbles := by rw [loadBuffer_valid]; decide
  bits    := by
    show ∀ i < 64, (0xCCCCCCCCCCCCCCCC#64).getLsbD i = decide (2 ≤ i % 4)
    decide

/-- The symbol at the low end is 12. -/
theorem HoldsTwelves.low_nibble {s : State} (h : HoldsTwelves s) (hv : 4 ≤ s.valid.toNat) : s.buf.setWidth 4 = 12#4 := by
  have htwelve : ∀ i < 4, (12#4).getLsbD i = decide (2 ≤ i % 4) := by decide
  apply BitVec.eq_of_getLsbD_eq
  intro i hi
  rw [BitVec.getLsbD_setWidth, h.bits i (by omega), htwelve i hi, decide_eq_true hi, Bool.true_and]

/-- A draw takes one whole nibble. -/
theorem HoldsTwelves.shiftOut {s : State} (h : HoldsTwelves s) (hv : 4 ≤ s.valid.toNat) :
    HoldsTwelves (shiftOut 4 s) := by
  have hmod := h.nibbles
  have hvalid : (Machine.shiftOut 4 s).valid.toNat = s.valid.toNat - 4 := shiftOut_valid_toNat hv
  refine ⟨by omega, fun i hi => ?_⟩
  rw [shiftOut_buf, BitVec.getLsbD_ushiftRight, h.bits _ (by omega), Nat.add_mod_left]

/-! ### The STEPs -/

theorem Livelock.rngRead_eq {s : State} (h : Livelock s) : rngRead s.env = some (allTwelve, s.env) :=
  rngRead_always s.env allTwelve h.noQueue h.source

/-- The source always answers, so a STEP is always enabled. -/
theorem Livelock.stepEnabled_eq {s : State} (h : Livelock s) : stepEnabled s = true := by
  simp [stepEnabled, h.collecting, h.rngRead_eq]

/-- With the bits at hand or with a refill, a draw finds nibbles that are 12. -/
theorem Livelock.exists_refilled {s : State} (h : Livelock s) :
    ∃ u, Refilled Config.digitWidth s u ∧ u.env = s.env ∧ HoldsTwelves u := by
  obtain hv | hv := Nat.lt_or_ge s.valid.toNat Config.digitWidth
  · exact ⟨_, .loaded _ _ _ _ _ _ _ _ _ hv h.rngRead_eq, rfl, holdsTwelves_loadBuffer _⟩
  · exact ⟨s, .enough hv, rfl, h.buffer⟩

/-- `t` is `s` after `k` draws that were all rejected: the accepted symbols and their counters stand, and DRAW_COUNT does
not. -/
structure OnlyDrew (k : Nat) (s t : State) : Prop where
  out       : t.out = s.out
  accBits   : t.accBits = s.accBits
  accCount  : t.accCount = s.accCount
  drawCount : t.drawCount = s.drawCount + BitVec.ofNat 64 k

theorem onlyDrew_zero (s : State) : OnlyDrew 0 s s := ⟨rfl, rfl, rfl, (BitVec.add_zero _).symm⟩

theorem OnlyDrew.succ {k : Nat} {s u t : State} (h : OnlyDrew 1 s u) (ht : OnlyDrew k u t) : OnlyDrew (k + 1) s t where
  out       := ht.out.trans h.out
  accBits   := ht.accBits.trans h.accBits
  accCount  := ht.accCount.trans h.accCount
  drawCount := by rw [ht.drawCount, h.drawCount, BitVec.add_assoc, ← BitVec.ofNat_add, Nat.add_comm]

/-- Each step draws a 12, rejects it and leaves the run as it was. -/
theorem Livelock.exists_step {s : State} (h : Livelock s) : ∃ t, step s = .next t ∧ Livelock t ∧ OnlyDrew 1 s t := by
  obtain ⟨u, hu, henv, hbuf⟩ := h.exists_refilled
  have hv : 4 ≤ u.valid.toNat := hu.valid_ge (by decide)
  have hrejected : CoreOutcome s (countDraw (shiftOut Config.digitWidth u)) :=
    .rejected u h.collecting h.digit hu (by rw [hbuf.low_nibble hv]; decide)
  have hdrawn := hbuf.shiftOut hv
  refine ⟨_, (step_of_no_agenda h.noReset h.noTurn).trans hrejected.coreTurn_eq, ?_, ?_⟩
  · exact {
      collecting := by simp [hu.frame, h.collecting]
      digit := by simp [hu.frame, h.digit]
      noReset := by simp [henv, h.noReset]
      noTurn := by simp [henv, h.noTurn]
      noQueue := by simp [henv, h.noQueue]
      source := by simp [henv, h.source]
      buffer := ⟨hdrawn.nibbles, hdrawn.bits⟩ }
  · constructor <;> simp [hu.frame]

/-- So does any number of steps. -/
theorem Livelock.exists_steps (k : Nat) {s : State} (h : Livelock s) :
    ∃ t, steps k s = .next t ∧ Livelock t ∧ OnlyDrew k s t := by
  induction k generalizing s with
  | zero => exact ⟨s, rfl, h, onlyDrew_zero s⟩
  | succ k ih =>
    obtain ⟨u, hstep, hu, hdrew⟩ := h.exists_step
    obtain ⟨t, hsteps, ht, hrest⟩ := ih hu
    exact ⟨t, (steps_succ hstep k).trans hsteps, ht, hdrew.succ hrest⟩

end Sys2Proof.Machine

namespace Sys2Proof.Proofs

open Sys2Proof.Machine

/-- Settles O59: an empty buffer holds no nibble but 12, and every step keeps it so. -/
theorem allRejectedSourceLivelocks : Obligations.AllRejectedSourceLivelocks := by
  intro s k hs hm hvalid hreset ha hqueue hrest
  have hempty : s.valid.toNat = 0 := by rw [hvalid]; rfl
  have hbuf : HoldsTwelves s := ⟨by rw [hempty], fun i hi => by omega⟩
  obtain ⟨t, hsteps, ht, hdrew⟩ := Livelock.exists_steps k ⟨hs, hm, hreset, ha, hqueue, hrest, hbuf⟩
  refine ⟨t, hsteps, ht.collecting, ht.stepEnabled_eq, hdrew.out, hdrew.accBits, hdrew.accCount, ?_⟩
  rw [hdrew.drawCount, BitVec.toNat_add, BitVec.toNat_ofNat, Nat.add_mod_mod]

end Sys2Proof.Proofs
end

section
/-! NOP, CFG and the register reads: the words with OP = 0, the target a CFG writes, and each register of the map as a number
(44_control_and_report.md R190, R192, R196). -/

namespace Sys2Proof.Machine

/-! ### The words with OP = 0 (R190) -/

theorem eq_zero_of_highBits {w : Word64} (hop : opField w = 0#4) (hz : w.extractLsb' 4 60 = 0#60) : w = 0#64 :=
  (commandWord_of_highBits hop hz).symm

/-! ### The target of a CFG (R192) -/

theorem cfgTargetOperand_toNat (m : Mode) (d : Bool) (t : Target) :
    (cfgTargetOperand m d t).toNat = if d = true then (if m = .word then 64 else 8) else t.toNat := by
  cases d with
  | false => rfl
  | true => cases m <;> rfl

/-! ### The registers as numbers (R196; 10_state.md R37 to R41) -/

/-- A flag that stands in front of `n` bits as a number. -/
theorem toNat_ofBool_append {n : Nat} (b : Bool) (x : BitVec n) :
    (BitVec.ofBool b ++ x).toNat = x.toNat + if b = true then 2 ^ n else 0 := by
  rw [toNat_append_eq]
  cases b <;> simp [Nat.add_comm]

theorem domainFull_iff (s : State) : domainFull s = true ↔ s.domainCount.toNat = 2 ^ 18 := beq_iff_eq

theorem statusRegister_toNat (s : State) :
    (statusRegister s).toNat =
      s.state.code.toNat + (if s.rej then 4 else 0) + if s.domainCount.toNat = 2 ^ 18 then 8 else 0 := by
  rw [statusRegister, BitVec.toNat_setWidth_of_le (by decide), BitVec.append_assoc, BitVec.toNat_cast, toNat_ofBool_append,
    toNat_ofBool_append]
  simp only [domainFull_iff, Nat.reduceAdd, Nat.reducePow]

theorem ofBool_bit_toNat (m : Mode) : (BitVec.ofBool m.bit).toNat = if m = .digit then 1 else 0 := by
  cases m <;> rfl

theorem cfgRegister_toNat (s : State) :
    (cfgRegister s).toNat = (if s.cfgMode = .digit then 1 else 0) + if s.cfgVerbose then 2 else 0 := by
  rw [cfgRegister, BitVec.toNat_setWidth_of_le (by decide), toNat_ofBool_append, ofBool_bit_toNat,
    Nat.pow_one]

theorem runRegister_toNat (s : State) : (runRegister s).toNat = if s.rmode = .digit then 1 else 0 := by
  rw [runRegister, BitVec.toNat_setWidth_of_le (by decide), ofBool_bit_toNat]

theorem reportRegister_toNat (s : State) :
    (reportRegister s).toNat = if s.rmode = .word then s.accBits.toNat else s.accCount.toNat := by
  unfold reportRegister
  cases s.rmode with
  | word => exact BitVec.toNat_setWidth_of_le (by decide)
  | digit => exact BitVec.toNat_setWidth_of_le (by decide)

/-! ### The map of read addresses (R196; 10_state.md R37) -/

/-- A read address is one of the map's, or lies above them all. -/
theorem readAddr_cases (a : ReadAddr) :
    a = 0x00#8 ∨ a = 0x01#8 ∨ a = 0x02#8 ∨ a = 0x03#8 ∨ a = 0x04#8 ∨ a = 0x05#8 ∨ a = 0x06#8 ∨ a = 0x07#8 ∨
      a = 0x08#8 ∨ a = 0x09#8 ∨ a = 0x0A#8 ∨ a = 0x0B#8 ∨ a = 0x0C#8 ∨ a = 0x0D#8 ∨ 0x0D < a.toNat := by
  bv_omega

/-- An address above the map reads 0. -/
theorem readRegister_of_gt {a : ReadAddr} (h : 0x0D < a.toNat) (s : State) : readRegister a s = 0#64 := by
  unfold readRegister
  split
  case h_15 => rfl
  all_goals omega

end Sys2Proof.Machine

namespace Sys2Proof.Proofs

open Sys2Proof.Machine

/-- Settles O13: the decoder accepts no word but 0 as a NOP, and another word with OP = 0 is ILLEGAL. -/
theorem nopChangesNothing : Obligations.NopChangesNothing := by
  refine ⟨fun s => exec_eq .nop s, fun w => ⟨fun h => ?_, ?_⟩, fun w s hop hne => ?_⟩
  · have henc := encodeOfDecodeIsAccess (.command w) .nop h
    exact (PortAccess.command.inj henc).symm
  · rintro rfl
    rfl
  · have hz : w.extractLsb' 4 60 ≠ 0#60 := fun hz => hne (eq_zero_of_highBits hop hz)
    exact illegalWordOnlySetsRej s w (.inr (.inl ⟨.inl (congrArg BitVec.toNat hop), hz⟩))

/-- Settles O14: CFG answers in every state, and its target is the operand or the default. -/
theorem cfgWritesConfiguration : Obligations.CfgWritesConfiguration :=
  fun m v d x s => ⟨_, exec_eq (.cfg m v d x) s, rfl, rfl, cfgTargetOperand_toNat m d x, rfl⟩

/-- Settles O16: by the address; each register of the map as a number, and 0 above the map. -/
theorem readReturnsRegister : Obligations.ReadReturnsRegister := by
  intro a s
  refine ⟨readRegister a s, exec_eq (.read a) s, ?_⟩
  have zext {n : Nat} (x : BitVec n) (hn : n ≤ 64) : (x.setWidth 64).toNat = x.toNat := BitVec.toNat_setWidth_of_le hn
  obtain rfl | rfl | rfl | rfl | rfl | rfl | rfl | rfl | rfl | rfl | rfl | rfl | rfl | rfl | ha := readAddr_cases a
  · refine (statusRegister_toNat s).trans ?_
    cases s.state <;> rfl
  · exact zext s.errCode (by decide)
  · exact cfgRegister_toNat s
  · exact zext s.cfgTarget (by decide)
  · exact runRegister_toNat s
  · exact zext s.rtarget (by decide)
  · exact zext s.accBits (by decide)
  · exact zext s.accCount (by decide)
  · exact reportRegister_toNat s
  · exact zext s.valid (by decide)
  · rfl
  · rfl
  · exact zext s.domainCount (by decide)
  · rfl
  · have hne (k : ReadAddr) (hk : k.toNat ≤ 0x0D) : a ≠ k := by
      rintro rfl
      omega
    rw [readRegister_of_gt ha]
    simp [hne]

end Sys2Proof.Proofs
end

section
/-! The error codes: who writes ERR_CODE, the code an accepted START leaves, and the error entry (60_exceptions.md R222 to
R230). -/

namespace Sys2Proof.Machine

open Sys2Proof.Safety

/-! ### Who writes ERR_CODE (10_state.md R31, R42) -/

/-- A CORE turn leaves ERR_CODE, or raises EntropySourceExhausted (R224). -/
theorem CoreOutcome.errCode_cases {s t : State} (h : CoreOutcome s t) : t.errCode = s.errCode ∨ t.errCode = 2#3 := by
  cases h with
  | pass => exact .inl rfl
  | exhausted => exact .inr rfl
  | word u tok hs hm hu => exact .inl (by simp [hu.frame])
  | digit u d hs hm hu => exact .inl (by simp [hu.frame])
  | rejected u hs hm hu => exact .inl (by simp [hu.frame])

/-- An instruction is an accepted START, or it leaves ERR_CODE. -/
theorem EffectOutcome.errCode_cases {i : Instr} {s t : State} (h : EffectOutcome s i t) :
    (i = .start ∧ s.state ≠ .collecting) ∨ t.errCode = s.errCode := by
  cases h with
  | started hs => exact .inl ⟨rfl, hs⟩
  | nop | cfg | read | rejected | cleared | stored | dropped => exact .inr rfl

/-- A code that is neither NONE, which a reset writes, nor EntropySourceExhausted, which a STEP raises, comes from an
accepted START. -/
theorem start_of_errCode_raised {code : BitVec 3} (hnone : code ≠ 0#3) (hexhausted : code ≠ 2#3) {s t : State}
    (hst : step s = .next t) (hs : s.errCode ≠ code) (ht : t.errCode = code) :
    actionOf s = .instruction .start ∧ s.state ≠ .collecting := by
  have hne : t.errCode ≠ s.errCode := fun he => hs (he.symm.trans ht)
  have ho := step_actionOutcome hst
  generalize actionOf s = a at ho ⊢
  cases ho with
  | reset => exact absurd ht.symm hnone
  | core l hc =>
    obtain hsame | htwo := hc.errCode_cases
    · exact absurd hsame hne
    · exact absurd (ht.symm.trans htwo) hexhausted
  | instruction i l hi =>
    obtain ⟨rfl, hstate⟩ | hsame := hi.errCode_cases
    · exact ⟨rfl, hstate⟩
    · exact absurd hsame hne
  | illegal l => exact absurd rfl hne
  | input e => exact absurd rfl hne

/-! ### The code an accepted START leaves (R223, R225, R232) -/

/-- The domain is checked before the source. -/
theorem launchRun_latchRun_errCode (s : State) :
    (launchRun (latchRun s)).errCode =
      if s.cfgMode = .word ∧ s.domainCount.toNat < 2 ^ 18 then 4#3 else if s.env.rngAvail = false then 1#3 else 0#3 := by
  have h := launchRun_latchRun_status s
  split_ifs at h ⊢ <;> exact h.2

theorem eq_launchRun_of_exec_start {s t : State} (hs : s.state ≠ .collecting) (h : exec .start s = .next t) :
    t = launchRun (latchRun s) := by
  rw [exec_eq, effect_start_accepted hs] at h
  cases h
  rfl

end Sys2Proof.Machine

namespace Sys2Proof.Proofs

open Sys2Proof.Machine Sys2Proof.Safety

/-- Settles O36: START's first check raises code 4, and no other operation writes it. -/
theorem insufficientDomainExactlyWhenShort : Obligations.InsufficientDomainExactlyWhenShort := by
  refine ⟨fun s t hs h => ?_, fun s t => start_of_errCode_raised (by decide) (by decide)⟩
  rw [eq_launchRun_of_exec_start hs h, launchRun_latchRun_errCode]
  split
  next hd => exact iff_of_true rfl hd
  next hd => exact iff_of_false (by split <;> decide) hd

/-- Settles O37: START's second check raises code 1, and no other operation writes it; a short answer during a run takes
the error entry with code 2. -/
theorem sourceUnavailableExactlyWhenClosed : Obligations.SourceUnavailableExactlyWhenClosed := by
  refine ⟨fun s t hs h => ?_, fun s t => start_of_errCode_raised (by decide) (by decide),
    fun s e hs hv hr => ⟨_, coreTurn_exhausted hs hv hr, rfl, rfl⟩⟩
  rw [eq_launchRun_of_exec_start hs h, launchRun_latchRun_errCode]
  split
  next hd => exact iff_of_false (by decide) fun ⟨_, hn⟩ => hn hd
  next hd =>
    split
    next hr => exact iff_of_true rfl ⟨hr, hd⟩
    next hr => exact iff_of_false (by decide) fun ⟨hclosed, _⟩ => hr hclosed

/-- Settles O39: the turn is the error entry with code 2, taken at the inputs the RNG's answer leaves. -/
theorem shortAnswerEndsRunPrecisely : Obligations.ShortAnswerEndsRunPrecisely :=
  fun _ _ hs hv hr => coreTurn_exhausted hs hv hr

/-- Settles O38: a machine in ERROR does not collect, so the CORE takes no STEP. -/
theorem errorEntryScrubsAndKeeps : Obligations.ErrorEntryScrubsAndKeeps :=
  fun _ _ => ⟨rfl, rfl, coreTurn_not_collecting nofun⟩

end Sys2Proof.Proofs
end

section
/-! Reset and the hazards of a run: the commands a run rejects, and the request to the random source that a reset abandons
(70_reset_and_hazards.md R250, R256). -/

namespace Sys2Proof.Machine

/-- A request is outstanding while a run collects and VALID is below its symbol width (43_accumulator.md R166). -/
theorem needsRefill_iff (s : State) :
    needsRefill s = true ↔ s.state = .collecting ∧ s.valid.toNat < symbolWidth s.rmode := by
  simp [needsRefill]

/-! ### The request a reset abandons (log 6) -/

/-- An answer that is determined is taken and goes to no one. -/
theorem rngAbandon_of_answer {e e' : Env} {a : RngAnswer} (h : rngRead e = some (a, e')) : rngAbandon e = e' := by
  rw [rngAbandon, h]

/-- An answer that is not determined yet is owed. -/
theorem rngAbandon_of_no_answer {e : Env} (h : rngRead e = none) :
    rngAbandon e = { e with rngAbandoned := e.rngAbandoned + 1, rngDraws := e.rngDraws + 1 } := by
  rw [rngAbandon, h]

/-- Abandoning a request touches the RNG's own inputs alone. -/
theorem rngAbandon_frame (e : Env) :
    (rngAbandon e).agenda = e.agenda ∧ (rngAbandon e).rngAvail = e.rngAvail ∧ (rngAbandon e).readData = e.readData := by
  rcases hr : rngRead e with _ | ⟨a, e'⟩
  · rw [rngAbandon_of_no_answer hr]
    exact ⟨rfl, rfl, rfl⟩
  · obtain ⟨hagenda, -, hdata, havail, -, -⟩ := rngRead_frame hr
    rw [rngAbandon_of_answer hr]
    exact ⟨hagenda, havail, hdata⟩

/-- An answer that comes for an abandoned request is dropped. -/
theorem rngDeliver_of_abandoned {e : Env} {n : Nat} (h : e.rngAbandoned = n + 1) (a : RngAnswer) :
    rngDeliver a e = { e with rngAbandoned := n } := by
  rw [rngDeliver, h]
  rfl

/-! ### The inputs after a reset -/

theorem resetEnv_of_outstanding {s : State} (h : s.state = .collecting ∧ s.valid.toNat < symbolWidth s.rmode) :
    resetEnv s = { rngAbandon s.env with resetIn := false } := by
  rw [resetEnv, if_pos ((needsRefill_iff s).2 h)]

theorem resetEnv_of_none_outstanding {s : State}
    (h : ¬ (s.state = .collecting ∧ s.valid.toNat < symbolWidth s.rmode)) :
    resetEnv s = { s.env with resetIn := false } := by
  rw [resetEnv, if_neg (mt (needsRefill_iff s).1 h)]

/-- A reset serves RESET and leaves the actions to come, RNG_AVAIL and the read port's data. -/
theorem resetEnv_frame (s : State) :
    (resetEnv s).resetIn = false ∧ (resetEnv s).agenda = s.env.agenda ∧ (resetEnv s).rngAvail = s.env.rngAvail ∧
      (resetEnv s).readData = s.env.readData := by
  by_cases h : s.state = .collecting ∧ s.valid.toNat < symbolWidth s.rmode
  · rw [resetEnv_of_outstanding h]
    exact ⟨rfl, rngAbandon_frame s.env⟩
  · rw [resetEnv_of_none_outstanding h]
    exact ⟨rfl, rfl, rfl, rfl⟩

/-- Of the determined answers a reset takes the first, when a request is outstanding that it answers. -/
theorem resetEnv_rngQueue {s : State} {a : RngAnswer} {q : List RngAnswer} (hq : s.env.rngQueue = a :: q) :
    (resetEnv s).rngQueue =
      if s.state = .collecting ∧ s.valid.toNat < symbolWidth s.rmode then q else a :: q := by
  split
  next h => rw [resetEnv_of_outstanding h, rngAbandon_of_answer (rngRead_queue s.env a q hq)]
  next h => rw [resetEnv_of_none_outstanding h]; exact hq

end Sys2Proof.Machine

namespace Sys2Proof.Proofs

open Sys2Proof.Machine Sys2Proof.Safety

/-- Settles O11: in COLLECTING each of the three is `reject`, which sets REJ. -/
theorem runRejectsLoadAndStart : Obligations.RunRejectsLoadAndStart := by
  intro s i hs hi
  rw [exec_eq]
  obtain rfl | ⟨v, rfl⟩ | rfl := hi
  · exact congrArg _ (effect_lutClear_rejected hs)
  · exact congrArg _ (effect_lutPush_rejected v hs)
  · exact congrArg _ (effect_start_rejected hs)

/-- Settles O48: the step is the reset, which leaves R43's registers over the inputs of `resetEnv`. -/
theorem resetTakesPriority : Obligations.ResetTakesPriority := by
  intro s hreset
  obtain ⟨hserved, hagenda, havail, hdata⟩ := resetEnv_frame s
  exact ⟨_, step_of_reset hreset, rfl, hserved, hagenda, havail, hdata, fun _ _ => resetEnv_rngQueue⟩

/-- Settles O49: the reset leaves one answer owed, and the delivery that follows it pays that answer. -/
theorem abandonedAnswerIsDiscarded : Obligations.AbandonedAnswerIsDiscarded := by
  intro s t a rest hreset hs hv hr habandoned hagenda hsteps
  obtain ⟨hserved, hkept, -, -⟩ := resetEnv_frame s
  have henv := resetEnv_of_outstanding ⟨hs, hv⟩
  rw [rngAbandon_of_no_answer hr] at henv
  have howed : (withAgenda rest (resetAction s)).env.rngAbandoned = 0 + 1 := by
    show (resetEnv s).rngAbandoned = 0 + 1
    rw [henv, habandoned]
  have hstep : step (resetAction s) = takeTurn (.rngDelivers a) (withAgenda rest (resetAction s)) :=
    step_of_turn hserved (hkept.trans hagenda)
  rw [takeTurn, rngDeliver_of_abandoned howed] at hstep
  rw [steps_succ (step_of_reset hreset), steps_succ hstep] at hsteps
  cases hsteps
  refine ⟨?_, rfl, rfl⟩
  show (resetEnv s).rngQueue = s.env.rngQueue
  rw [henv]

end Sys2Proof.Proofs
end

section
/-! An undisturbed WORD run over a source that answers in full: each STEP accepts one token, and their number is fixed by the
target (43_accumulator.md R166, R167; 70_reset_and_hazards.md R264). -/

namespace Sys2Proof.Safety

open Sys2Proof.Machine

/-- A WORD run that collects has emitted fewer than ceil(RTARGET / 18) tokens (R163, R167). -/
theorem Invariant.accCount_lt_of_collecting {s : State} (h : Invariant s)
    (hs : s.state = .collecting) (hm : s.rmode = .word) : s.accCount.toNat < (s.rtarget.toNat + 17) / 18 := by
  have hbits := h.accBits_word hm
  have hnot : s.accBits.toNat < s.rtarget.toNat := by simpa [NotMet, hm] using h.notMet hs
  omega

end Sys2Proof.Safety

namespace Sys2Proof.Machine

open Sys2Proof.Safety

/-! ### A source that answers in full (log 5) -/

/-- The next `n` answers of the RNG are full: the queue's, which are as many or are followed by one full answer for ever. -/
structure AnswersInFull (n : Nat) (e : Env) : Prop where
  queue  : ∀ a ∈ e.rngQueue, a ≠ .short
  enough : n ≤ e.rngQueue.length ∨ ∃ a, e.rngRest = .always a ∧ a ≠ .short

/-- Fewer answers of it are full as well. -/
theorem AnswersInFull.of_succ {n : Nat} {e : Env} (h : AnswersInFull (n + 1) e) : AnswersInFull n e :=
  ⟨h.queue, h.enough.imp_left Nat.le_of_succ_le⟩

/-- Its next answer is full, and leaves one fewer. -/
theorem AnswersInFull.rngRead_eq {n : Nat} {e : Env} (h : AnswersInFull (n + 1) e) :
    ∃ a e', rngRead e = some (a, e') ∧ a ≠ .short ∧ AnswersInFull n e' := by
  cases hq : e.rngQueue with
  | cons a q =>
    have hqueue := h.queue
    have henough := h.enough
    rw [hq] at hqueue henough
    exact ⟨a, _, rngRead_queue e a q hq, hqueue a List.mem_cons_self,
      fun b hb => hqueue b (List.mem_cons_of_mem a hb), henough.imp_left Nat.le_of_succ_le_succ⟩
  | nil =>
    obtain hlen | ⟨a, hrest, ha⟩ := h.enough
    · simp [hq] at hlen
    · exact ⟨a, e, rngRead_always e a hq hrest, ha, h.of_succ⟩

/-- A draw over it finds its bits, with the bits at hand or with a refill. -/
theorem AnswersInFull.exists_refilled {n : Nat} {s : State} (h : AnswersInFull (n + 1) s.env) (w : Nat) :
    ∃ u, Refilled w s u ∧ AnswersInFull n u.env := by
  obtain hv | hv := Nat.lt_or_ge s.valid.toNat w
  · obtain ⟨a, e, hr, ha, he⟩ := h.rngRead_eq
    cases a with
    | short => exact absurd rfl ha
    | full => exact ⟨_, .loaded _ _ _ _ _ _ _ _ e hv hr, he⟩
  · exact ⟨s, .enough hv, h.of_succ⟩

/-! ### The run -/

/-- A WORD run, collecting or DONE, that no other agent disturbs, `n` tokens short of the ceil(RTARGET / 18) it will emit, and
whose next `n` requests are answered in full. -/
structure AnsweredWordRun (n : Nat) (s : State) : Prop where
  invariant : Invariant s
  run       : s.state = .collecting ∨ s.state = .done
  word      : s.rmode = .word
  noReset   : s.env.resetIn = false
  noTurn    : s.env.agenda = []
  answers   : AnswersInFull n s.env
  left      : s.accCount.toNat + n = (s.rtarget.toNat + 17) / 18

theorem AnsweredWordRun.done_of_none_left {s : State} (h : AnsweredWordRun 0 s) : s.state = .done := by
  obtain hs | hs := h.run
  · exact absurd h.left (Nat.ne_of_lt (h.invariant.accCount_lt_of_collecting hs h.word))
  · exact hs

theorem AnsweredWordRun.collecting_of_left {n : Nat} {s : State} (h : AnsweredWordRun (n + 1) s) :
    s.state = .collecting := by
  obtain hs | hs := h.run
  · exact hs
  · have hcount := h.invariant.accCount_of_done hs h.word
    have hleft := h.left
    omega

/-- Each step is a STEP that accepts a token, and leaves one fewer to come. -/
theorem AnsweredWordRun.exists_step {n : Nat} {s : State} (h : AnsweredWordRun (n + 1) s) :
    ∃ t, step s = .next t ∧ AnsweredWordRun n t ∧ t.rej = s.rej ∧ t.errCode = s.errCode := by
  have hs := h.collecting_of_left
  obtain ⟨u, hu, hanswers⟩ := h.answers.exists_refilled Config.wordWidth
  obtain ⟨tok, htok⟩ := h.invariant.lutRead_eq_some hs h.word (u.buf.setWidth 18)
  have haccepted : CoreOutcome s (terminal (acceptDraw tok Config.wordWidth u)) := .word u tok hs h.word hu htok
  obtain ⟨-, -, -, hmode, htarget, hrej, -, -⟩ := haccepted.unwritten
  obtain ⟨hagenda, hreset, -, -, -, -⟩ := hu.env_frame
  have hcount : (terminal (acceptDraw tok Config.wordWidth u)).accCount.toNat = s.accCount.toNat + 1 := by
    rw [terminal_accCount, h.invariant.accCount_accept hs hu]
  refine ⟨_, (step_of_no_agenda h.noReset h.noTurn).trans haccepted.coreTurn_eq, ?_, hrej, by simp [hu.frame]⟩
  exact {
    invariant := h.invariant.core haccepted
    run := by rw [terminal_state]; split <;> simp [hu.frame, hs]
    word := hmode.trans h.word
    noReset := by simp [hreset, h.noReset]
    noTurn := by simp [hagenda, h.noTurn]
    answers := by simpa using hanswers
    left := by rw [hcount, htarget, ← h.left]; omega }

/-- So the run is DONE when all of them have been taken. -/
theorem AnsweredWordRun.exists_steps {n : Nat} {s : State} (h : AnsweredWordRun n s) :
    ∃ t, steps n s = .next t ∧ t.state = .done ∧ t.rej = s.rej ∧ t.errCode = s.errCode := by
  induction n generalizing s with
  | zero => exact ⟨s, rfl, h.done_of_none_left, rfl, rfl⟩
  | succ n ih =>
    obtain ⟨u, hstep, hu, hrej, hcode⟩ := h.exists_step
    obtain ⟨t, hsteps, hdone, hrej', hcode'⟩ := ih hu
    exact ⟨t, (steps_succ hstep n).trans hsteps, hdone, hrej'.trans hrej, hcode'.trans hcode⟩

end Sys2Proof.Machine

namespace Sys2Proof.Proofs

open Sys2Proof.Machine Sys2Proof.Safety

/-- Settles O58: by induction on the tokens still to come, one for each STEP. -/
theorem wordRunTerminates : Obligations.WordRunTerminates := by
  intro s h hs hm hreset hagenda hqueue henough
  have hlt := h.accCount_lt_of_collecting hs hm
  exact AnsweredWordRun.exists_steps
    ⟨h, .inl hs, hm, hreset, hagenda, ⟨hqueue, henough⟩, Nat.add_sub_of_le (Nat.le_of_lt hlt)⟩

end Sys2Proof.Proofs
end
